-- ==== Sys2Proof/Word.lean ====
section
/-! DEFINITION. The word types of the block (00_scope.md R6, R9). -/

namespace Sys2Proof

/-- One byte of memory. -/
abbrev Byte := BitVec 8

/-- `Word32` of 00_scope.md R9: general registers, HI, LO, `pc`, CP0 and FPU control registers, addresses
and instruction words are 32 bits wide (R6). -/
abbrev Word := BitVec 32

/-- `Word64` of 00_scope.md R9: the FPU registers and the counters are 64 bits wide (R6). -/
abbrev DWord := BitVec 64

/-- The number of a register in a file of 32. -/
abbrev Reg := Fin 32

end Sys2Proof
end

