-- ==== Sys2Proof/Syntax.lean ====
section
/-! DEFINITION. The instructions of the block as syntax: one constructor for each row of opcode_table.json
(30_encoding.md R119), its operands in assembler order (R125). Words that no row covers are no instruction:
Decode.lean rejects them by name. -/

namespace Sys2Proof

/-- One instruction. Register numbers are `Reg`; an immediate, offset or jump index is the bit field the
instruction holds (R112). Fields that are only counted or carried along (a shift amount, a code, a cache
operation) are numbers, and `Instr.wellFormed` says that they fit their field. -/
inductive Instr where
  /- Integer ALU (41_alu.md) -/
  /-- ADD, R190. -/
  | add (rd rs rt : Reg)
  /-- ADDU, R191. -/
  | addu (rd rs rt : Reg)
  /-- SUB, R192. -/
  | sub (rd rs rt : Reg)
  /-- SUBU, R193. -/
  | subu (rd rs rt : Reg)
  /-- AND, R196. -/
  | and (rd rs rt : Reg)
  /-- OR, R197. -/
  | or (rd rs rt : Reg)
  /-- XOR, R198. -/
  | xor (rd rs rt : Reg)
  /-- NOR, R199. -/
  | nor (rd rs rt : Reg)
  /-- SLT, R204. -/
  | slt (rd rs rt : Reg)
  /-- SLTU, R205. -/
  | sltu (rd rs rt : Reg)
  /-- SLL, R208. -/
  | sll (rd rt : Reg) (sa : Nat)
  /-- SRL, R209. -/
  | srl (rd rt : Reg) (sa : Nat)
  /-- SRA, R210. -/
  | sra (rd rt : Reg) (sa : Nat)
  /-- SLLV, R211. -/
  | sllv (rd rt rs : Reg)
  /-- SRLV, R212. -/
  | srlv (rd rt rs : Reg)
  /-- SRAV, R213. -/
  | srav (rd rt rs : Reg)
  /-- ADDI, R194. -/
  | addi (rt rs : Reg) (imm : BitVec 16)
  /-- ADDIU, R195. -/
  | addiu (rt rs : Reg) (imm : BitVec 16)
  /-- SLTI, R206. -/
  | slti (rt rs : Reg) (imm : BitVec 16)
  /-- SLTIU, R207. -/
  | sltiu (rt rs : Reg) (imm : BitVec 16)
  /-- ANDI, R200. -/
  | andi (rt rs : Reg) (imm : BitVec 16)
  /-- ORI, R201. -/
  | ori (rt rs : Reg) (imm : BitVec 16)
  /-- XORI, R202. -/
  | xori (rt rs : Reg) (imm : BitVec 16)
  /-- LUI, R203. -/
  | lui (rt : Reg) (imm : BitVec 16)
  /- Multiply, divide, HI and LO (42_muldiv.md) -/
  /-- MULT, R230. -/
  | mult (rs rt : Reg)
  /-- MULTU, R231. -/
  | multu (rs rt : Reg)
  /-- DIV, R232. -/
  | div (rs rt : Reg)
  /-- DIVU, R233. -/
  | divu (rs rt : Reg)
  /-- MFHI, R234. -/
  | mfhi (rd : Reg)
  /-- MTHI, R235. -/
  | mthi (rs : Reg)
  /-- MFLO, R236. -/
  | mflo (rd : Reg)
  /-- MTLO, R237. -/
  | mtlo (rs : Reg)
  /- Jumps and branches (43_branch.md) -/
  /-- J, R252. -/
  | j (target : BitVec 26)
  /-- JAL, R253. -/
  | jal (target : BitVec 26)
  /-- JR, R254. -/
  | jr (rs : Reg)
  /-- JALR, R255. -/
  | jalr (rd rs : Reg)
  /-- BEQ, R256. -/
  | beq (rs rt : Reg) (offset : BitVec 16)
  /-- BNE, R257. -/
  | bne (rs rt : Reg) (offset : BitVec 16)
  /-- BLEZ, R258. -/
  | blez (rs : Reg) (offset : BitVec 16)
  /-- BGTZ, R259. -/
  | bgtz (rs : Reg) (offset : BitVec 16)
  /-- BEQL, R264. -/
  | beql (rs rt : Reg) (offset : BitVec 16)
  /-- BNEL, R265. -/
  | bnel (rs rt : Reg) (offset : BitVec 16)
  /-- BLEZL, R266. -/
  | blezl (rs : Reg) (offset : BitVec 16)
  /-- BGTZL, R267. -/
  | bgtzl (rs : Reg) (offset : BitVec 16)
  /-- BLTZ, R260. -/
  | bltz (rs : Reg) (offset : BitVec 16)
  /-- BGEZ, R261. -/
  | bgez (rs : Reg) (offset : BitVec 16)
  /-- BLTZAL, R262. -/
  | bltzal (rs : Reg) (offset : BitVec 16)
  /-- BGEZAL, R263. -/
  | bgezal (rs : Reg) (offset : BitVec 16)
  /-- BLTZL, R268. -/
  | bltzl (rs : Reg) (offset : BitVec 16)
  /-- BGEZL, R269. -/
  | bgezl (rs : Reg) (offset : BitVec 16)
  /-- BLTZALL, R270. -/
  | bltzall (rs : Reg) (offset : BitVec 16)
  /-- BGEZALL, R271. -/
  | bgezall (rs : Reg) (offset : BitVec 16)
  /- Loads, stores and synchronisation (44_loadstore.md) -/
  /-- LB, R281. -/
  | lb (rt base : Reg) (offset : BitVec 16)
  /-- LBU, R282. -/
  | lbu (rt base : Reg) (offset : BitVec 16)
  /-- LH, R283. -/
  | lh (rt base : Reg) (offset : BitVec 16)
  /-- LHU, R284. -/
  | lhu (rt base : Reg) (offset : BitVec 16)
  /-- LW, R285. -/
  | lw (rt base : Reg) (offset : BitVec 16)
  /-- SB, R286. -/
  | sb (rt base : Reg) (offset : BitVec 16)
  /-- SH, R287. -/
  | sh (rt base : Reg) (offset : BitVec 16)
  /-- SW, R288. -/
  | sw (rt base : Reg) (offset : BitVec 16)
  /-- SWL, R290. -/
  | swl (rt base : Reg) (offset : BitVec 16)
  /-- SWR, R291. -/
  | swr (rt base : Reg) (offset : BitVec 16)
  /-- LWL, R292. -/
  | lwl (rt base : Reg) (offset : BitVec 16)
  /-- LWR, R293. -/
  | lwr (rt base : Reg) (offset : BitVec 16)
  /-- LL, R294. -/
  | ll (rt base : Reg) (offset : BitVec 16)
  /-- SC, R295. -/
  | sc (rt base : Reg) (offset : BitVec 16)
  /-- SYNC, R296. -/
  | sync (stype : Nat)
  /-- CACHE, R297. -/
  | cache (op : Nat) (base : Reg) (offset : BitVec 16)
  /- System, trap and CP0 (45_system.md) -/
  /-- SYSCALL, R310. -/
  | syscall (code : Nat)
  /-- BREAK, R311. -/
  | brk (code : Nat)
  /-- TGE, R312. -/
  | tge (rs rt : Reg) (code : Nat)
  /-- TGEU, R313. -/
  | tgeu (rs rt : Reg) (code : Nat)
  /-- TLT, R314. -/
  | tlt (rs rt : Reg) (code : Nat)
  /-- TLTU, R315. -/
  | tltu (rs rt : Reg) (code : Nat)
  /-- TEQ, R316. -/
  | teq (rs rt : Reg) (code : Nat)
  /-- TNE, R317. -/
  | tne (rs rt : Reg) (code : Nat)
  /-- MFC0, R319. -/
  | mfc0 (rt rd : Reg)
  /-- MTC0, R320. -/
  | mtc0 (rt rd : Reg)
  /-- ERET, R322. -/
  | eret
  /-- TGEI, R327. -/
  | tgei (rs : Reg) (imm : BitVec 16)
  /-- TGEIU, R328. -/
  | tgeiu (rs : Reg) (imm : BitVec 16)
  /-- TLTI, R329. -/
  | tlti (rs : Reg) (imm : BitVec 16)
  /-- TLTIU, R330. -/
  | tltiu (rs : Reg) (imm : BitVec 16)
  /-- TEQI, R331. -/
  | teqi (rs : Reg) (imm : BitVec 16)
  /-- TNEI, R332. -/
  | tnei (rs : Reg) (imm : BitVec 16)
  /-- TLBR, R324. -/
  | tlbr
  /-- TLBWI, R324. -/
  | tlbwi
  /-- TLBWR, R324. -/
  | tlbwr
  /-- TLBP, R324. -/
  | tlbp
  /- Doubleword instructions, reserved here (45_system.md R325) -/
  /-- DADDI, R325. -/
  | daddi (rt rs : Reg) (imm : BitVec 16)
  /-- DADDIU, R325. -/
  | daddiu (rt rs : Reg) (imm : BitVec 16)
  /-- LDL, R325. -/
  | ldl (rt base : Reg) (offset : BitVec 16)
  /-- LDR, R325. -/
  | ldr (rt base : Reg) (offset : BitVec 16)
  /-- LWU, R325. -/
  | lwu (rt base : Reg) (offset : BitVec 16)
  /-- SDL, R325. -/
  | sdl (rt base : Reg) (offset : BitVec 16)
  /-- SDR, R325. -/
  | sdr (rt base : Reg) (offset : BitVec 16)
  /-- LLD, R325. -/
  | lld (rt base : Reg) (offset : BitVec 16)
  /-- LD, R325. -/
  | ld (rt base : Reg) (offset : BitVec 16)
  /-- SCD, R325. -/
  | scd (rt base : Reg) (offset : BitVec 16)
  /-- SD, R325. -/
  | sd (rt base : Reg) (offset : BitVec 16)
  /-- DSLLV, R325. -/
  | dsllv (rd rt rs : Reg)
  /-- DSRLV, R325. -/
  | dsrlv (rd rt rs : Reg)
  /-- DSRAV, R325. -/
  | dsrav (rd rt rs : Reg)
  /-- DADD, R325. -/
  | dadd (rd rs rt : Reg)
  /-- DADDU, R325. -/
  | daddu (rd rs rt : Reg)
  /-- DSUB, R325. -/
  | dsub (rd rs rt : Reg)
  /-- DSUBU, R325. -/
  | dsubu (rd rs rt : Reg)
  /-- DMULT, R325. -/
  | dmult (rs rt : Reg)
  /-- DMULTU, R325. -/
  | dmultu (rs rt : Reg)
  /-- DDIV, R325. -/
  | ddiv (rs rt : Reg)
  /-- DDIVU, R325. -/
  | ddivu (rs rt : Reg)
  /-- DSLL, R325. -/
  | dsll (rd rt : Reg) (sa : Nat)
  /-- DSRL, R325. -/
  | dsrl (rd rt : Reg) (sa : Nat)
  /-- DSRA, R325. -/
  | dsra (rd rt : Reg) (sa : Nat)
  /-- DSLL32, R325. -/
  | dsll32 (rd rt : Reg) (sa : Nat)
  /-- DSRL32, R325. -/
  | dsrl32 (rd rt : Reg) (sa : Nat)
  /-- DSRA32, R325. -/
  | dsra32 (rd rt : Reg) (sa : Nat)
  /-- DMFC0, R325. -/
  | dmfc0 (rt rd : Reg)
  /-- DMTC0, R325. -/
  | dmtc0 (rt rd : Reg)
  /-- DMFC1, R325. -/
  | dmfc1 (rt fs : Reg)
  /-- DMTC1, R325. -/
  | dmtc1 (rt fs : Reg)
  /- COP2 space (45_system.md R326) -/
  /-- COP2, R326. -/
  | cop2 (cofun : Nat)
  /-- LWC2, R326. -/
  | lwc2 (rt base : Reg) (offset : BitVec 16)
  /-- LDC2, R326. -/
  | ldc2 (rt base : Reg) (offset : BitVec 16)
  /-- SWC2, R326. -/
  | swc2 (rt base : Reg) (offset : BitVec 16)
  /-- SDC2, R326. -/
  | sdc2 (rt base : Reg) (offset : BitVec 16)
  /- FPU moves, loads, stores and branches (46_fpu_move.md) -/
  /-- MFC1, R345. -/
  | mfc1 (rt fs : Reg)
  /-- MTC1, R346. -/
  | mtc1 (rt fs : Reg)
  /-- CFC1, R347. -/
  | cfc1 (rt fs : Reg)
  /-- CTC1, R348. -/
  | ctc1 (rt fs : Reg)
  /-- LWC1, R349. -/
  | lwc1 (ft base : Reg) (offset : BitVec 16)
  /-- SWC1, R350. -/
  | swc1 (ft base : Reg) (offset : BitVec 16)
  /-- LDC1, R351. -/
  | ldc1 (ft base : Reg) (offset : BitVec 16)
  /-- SDC1, R352. -/
  | sdc1 (ft base : Reg) (offset : BitVec 16)
  /-- BC1F, R353. -/
  | bc1f (offset : BitVec 16)
  /-- BC1T, R354. -/
  | bc1t (offset : BitVec 16)
  /-- BC1FL, R355. -/
  | bc1fl (offset : BitVec 16)
  /-- BC1TL, R356. -/
  | bc1tl (offset : BitVec 16)
  /- FPU arithmetic, conversion and compare (47_fpu_arith.md) -/
  /-- ADD.S, R368. -/
  | addS (fd fs ft : Reg)
  /-- SUB.S, R369. -/
  | subS (fd fs ft : Reg)
  /-- MUL.S, R370. -/
  | mulS (fd fs ft : Reg)
  /-- DIV.S, R371. -/
  | divS (fd fs ft : Reg)
  /-- SQRT.S, R372. -/
  | sqrtS (fd fs : Reg)
  /-- ABS.S, R373. -/
  | absS (fd fs : Reg)
  /-- MOV.S, R374. -/
  | movS (fd fs : Reg)
  /-- NEG.S, R375. -/
  | negS (fd fs : Reg)
  /-- ROUND.L.S, R380. -/
  | roundLS (fd fs : Reg)
  /-- TRUNC.L.S, R381. -/
  | truncLS (fd fs : Reg)
  /-- CEIL.L.S, R382. -/
  | ceilLS (fd fs : Reg)
  /-- FLOOR.L.S, R383. -/
  | floorLS (fd fs : Reg)
  /-- ROUND.W.S, R376. -/
  | roundWS (fd fs : Reg)
  /-- TRUNC.W.S, R377. -/
  | truncWS (fd fs : Reg)
  /-- CEIL.W.S, R378. -/
  | ceilWS (fd fs : Reg)
  /-- FLOOR.W.S, R379. -/
  | floorWS (fd fs : Reg)
  /-- CVT.W.S, R387. -/
  | cvtWS (fd fs : Reg)
  /-- CVT.L.S, R388. -/
  | cvtLS (fd fs : Reg)
  /-- ADD.D, R368. -/
  | addD (fd fs ft : Reg)
  /-- SUB.D, R369. -/
  | subD (fd fs ft : Reg)
  /-- MUL.D, R370. -/
  | mulD (fd fs ft : Reg)
  /-- DIV.D, R371. -/
  | divD (fd fs ft : Reg)
  /-- SQRT.D, R372. -/
  | sqrtD (fd fs : Reg)
  /-- ABS.D, R373. -/
  | absD (fd fs : Reg)
  /-- MOV.D, R374. -/
  | movD (fd fs : Reg)
  /-- NEG.D, R375. -/
  | negD (fd fs : Reg)
  /-- ROUND.L.D, R380. -/
  | roundLD (fd fs : Reg)
  /-- TRUNC.L.D, R381. -/
  | truncLD (fd fs : Reg)
  /-- CEIL.L.D, R382. -/
  | ceilLD (fd fs : Reg)
  /-- FLOOR.L.D, R383. -/
  | floorLD (fd fs : Reg)
  /-- ROUND.W.D, R376. -/
  | roundWD (fd fs : Reg)
  /-- TRUNC.W.D, R377. -/
  | truncWD (fd fs : Reg)
  /-- CEIL.W.D, R378. -/
  | ceilWD (fd fs : Reg)
  /-- FLOOR.W.D, R379. -/
  | floorWD (fd fs : Reg)
  /-- CVT.W.D, R387. -/
  | cvtWD (fd fs : Reg)
  /-- CVT.L.D, R388. -/
  | cvtLD (fd fs : Reg)
  /-- CVT.S.D, R385. -/
  | cvtSD (fd fs : Reg)
  /-- CVT.S.W, R385. -/
  | cvtSW (fd fs : Reg)
  /-- CVT.S.L, R385. -/
  | cvtSL (fd fs : Reg)
  /-- CVT.D.S, R386. -/
  | cvtDS (fd fs : Reg)
  /-- CVT.D.W, R386. -/
  | cvtDW (fd fs : Reg)
  /-- CVT.D.L, R386. -/
  | cvtDL (fd fs : Reg)
  /-- C.F.S, R384. -/
  | cFS (fs ft : Reg)
  /-- C.UN.S, R384. -/
  | cUnS (fs ft : Reg)
  /-- C.EQ.S, R384. -/
  | cEqS (fs ft : Reg)
  /-- C.UEQ.S, R384. -/
  | cUeqS (fs ft : Reg)
  /-- C.OLT.S, R384. -/
  | cOltS (fs ft : Reg)
  /-- C.ULT.S, R384. -/
  | cUltS (fs ft : Reg)
  /-- C.OLE.S, R384. -/
  | cOleS (fs ft : Reg)
  /-- C.ULE.S, R384. -/
  | cUleS (fs ft : Reg)
  /-- C.SF.S, R384. -/
  | cSfS (fs ft : Reg)
  /-- C.NGLE.S, R384. -/
  | cNgleS (fs ft : Reg)
  /-- C.SEQ.S, R384. -/
  | cSeqS (fs ft : Reg)
  /-- C.NGL.S, R384. -/
  | cNglS (fs ft : Reg)
  /-- C.LT.S, R384. -/
  | cLtS (fs ft : Reg)
  /-- C.NGE.S, R384. -/
  | cNgeS (fs ft : Reg)
  /-- C.LE.S, R384. -/
  | cLeS (fs ft : Reg)
  /-- C.NGT.S, R384. -/
  | cNgtS (fs ft : Reg)
  /-- C.F.D, R384. -/
  | cFD (fs ft : Reg)
  /-- C.UN.D, R384. -/
  | cUnD (fs ft : Reg)
  /-- C.EQ.D, R384. -/
  | cEqD (fs ft : Reg)
  /-- C.UEQ.D, R384. -/
  | cUeqD (fs ft : Reg)
  /-- C.OLT.D, R384. -/
  | cOltD (fs ft : Reg)
  /-- C.ULT.D, R384. -/
  | cUltD (fs ft : Reg)
  /-- C.OLE.D, R384. -/
  | cOleD (fs ft : Reg)
  /-- C.ULE.D, R384. -/
  | cUleD (fs ft : Reg)
  /-- C.SF.D, R384. -/
  | cSfD (fs ft : Reg)
  /-- C.NGLE.D, R384. -/
  | cNgleD (fs ft : Reg)
  /-- C.SEQ.D, R384. -/
  | cSeqD (fs ft : Reg)
  /-- C.NGL.D, R384. -/
  | cNglD (fs ft : Reg)
  /-- C.LT.D, R384. -/
  | cLtD (fs ft : Reg)
  /-- C.NGE.D, R384. -/
  | cNgeD (fs ft : Reg)
  /-- C.LE.D, R384. -/
  | cLeD (fs ft : Reg)
  /-- C.NGT.D, R384. -/
  | cNgtD (fs ft : Reg)
  deriving DecidableEq, Repr

end Sys2Proof
end

