-- ==== Sys2Proof/WellFormed.lean ====
section
/-! DEFINITION. Which instructions are well formed: every number that stands for a bit field fits the field
(30_encoding.md R111, R112). Registers, immediates, offsets and jump indexes fit by their types. -/

namespace Sys2Proof

/-- `n` fits a field of `width` bits. -/
def fitsField (width n : Nat) : Bool := n < 2 ^ width

/-- The instruction is one that a word can hold: shift amounts, `stype` and the cache operation fit 5 bits,
the trap code 10, the SYSCALL and BREAK code 20, the COP2 function field 26 (R111, R112). -/
def Instr.wellFormed (i : Instr) : Bool :=
  match i with
  | .add _ _ _ => true
  | .addu _ _ _ => true
  | .sub _ _ _ => true
  | .subu _ _ _ => true
  | .and _ _ _ => true
  | .or _ _ _ => true
  | .xor _ _ _ => true
  | .nor _ _ _ => true
  | .slt _ _ _ => true
  | .sltu _ _ _ => true
  | .sll _ _ sa => fitsField 5 sa
  | .srl _ _ sa => fitsField 5 sa
  | .sra _ _ sa => fitsField 5 sa
  | .sllv _ _ _ => true
  | .srlv _ _ _ => true
  | .srav _ _ _ => true
  | .addi _ _ _ => true
  | .addiu _ _ _ => true
  | .slti _ _ _ => true
  | .sltiu _ _ _ => true
  | .andi _ _ _ => true
  | .ori _ _ _ => true
  | .xori _ _ _ => true
  | .lui _ _ => true
  | .mult _ _ => true
  | .multu _ _ => true
  | .div _ _ => true
  | .divu _ _ => true
  | .mfhi _ => true
  | .mthi _ => true
  | .mflo _ => true
  | .mtlo _ => true
  | .j _ => true
  | .jal _ => true
  | .jr _ => true
  | .jalr _ _ => true
  | .beq _ _ _ => true
  | .bne _ _ _ => true
  | .blez _ _ => true
  | .bgtz _ _ => true
  | .beql _ _ _ => true
  | .bnel _ _ _ => true
  | .blezl _ _ => true
  | .bgtzl _ _ => true
  | .bltz _ _ => true
  | .bgez _ _ => true
  | .bltzal _ _ => true
  | .bgezal _ _ => true
  | .bltzl _ _ => true
  | .bgezl _ _ => true
  | .bltzall _ _ => true
  | .bgezall _ _ => true
  | .lb _ _ _ => true
  | .lbu _ _ _ => true
  | .lh _ _ _ => true
  | .lhu _ _ _ => true
  | .lw _ _ _ => true
  | .sb _ _ _ => true
  | .sh _ _ _ => true
  | .sw _ _ _ => true
  | .swl _ _ _ => true
  | .swr _ _ _ => true
  | .lwl _ _ _ => true
  | .lwr _ _ _ => true
  | .ll _ _ _ => true
  | .sc _ _ _ => true
  | .sync stype => fitsField 5 stype
  | .cache op _ _ => fitsField 5 op
  | .syscall code => fitsField 20 code
  | .brk code => fitsField 20 code
  | .tge _ _ code => fitsField 10 code
  | .tgeu _ _ code => fitsField 10 code
  | .tlt _ _ code => fitsField 10 code
  | .tltu _ _ code => fitsField 10 code
  | .teq _ _ code => fitsField 10 code
  | .tne _ _ code => fitsField 10 code
  | .mfc0 _ _ => true
  | .mtc0 _ _ => true
  | .eret => true
  | .tgei _ _ => true
  | .tgeiu _ _ => true
  | .tlti _ _ => true
  | .tltiu _ _ => true
  | .teqi _ _ => true
  | .tnei _ _ => true
  | .tlbr => true
  | .tlbwi => true
  | .tlbwr => true
  | .tlbp => true
  | .daddi _ _ _ => true
  | .daddiu _ _ _ => true
  | .ldl _ _ _ => true
  | .ldr _ _ _ => true
  | .lwu _ _ _ => true
  | .sdl _ _ _ => true
  | .sdr _ _ _ => true
  | .lld _ _ _ => true
  | .ld _ _ _ => true
  | .scd _ _ _ => true
  | .sd _ _ _ => true
  | .dsllv _ _ _ => true
  | .dsrlv _ _ _ => true
  | .dsrav _ _ _ => true
  | .dadd _ _ _ => true
  | .daddu _ _ _ => true
  | .dsub _ _ _ => true
  | .dsubu _ _ _ => true
  | .dmult _ _ => true
  | .dmultu _ _ => true
  | .ddiv _ _ => true
  | .ddivu _ _ => true
  | .dsll _ _ sa => fitsField 5 sa
  | .dsrl _ _ sa => fitsField 5 sa
  | .dsra _ _ sa => fitsField 5 sa
  | .dsll32 _ _ sa => fitsField 5 sa
  | .dsrl32 _ _ sa => fitsField 5 sa
  | .dsra32 _ _ sa => fitsField 5 sa
  | .dmfc0 _ _ => true
  | .dmtc0 _ _ => true
  | .dmfc1 _ _ => true
  | .dmtc1 _ _ => true
  | .cop2 cofun => fitsField 26 cofun
  | .lwc2 _ _ _ => true
  | .ldc2 _ _ _ => true
  | .swc2 _ _ _ => true
  | .sdc2 _ _ _ => true
  | .mfc1 _ _ => true
  | .mtc1 _ _ => true
  | .cfc1 _ _ => true
  | .ctc1 _ _ => true
  | .lwc1 _ _ _ => true
  | .swc1 _ _ _ => true
  | .ldc1 _ _ _ => true
  | .sdc1 _ _ _ => true
  | .bc1f _ => true
  | .bc1t _ => true
  | .bc1fl _ => true
  | .bc1tl _ => true
  | .addS _ _ _ => true
  | .subS _ _ _ => true
  | .mulS _ _ _ => true
  | .divS _ _ _ => true
  | .sqrtS _ _ => true
  | .absS _ _ => true
  | .movS _ _ => true
  | .negS _ _ => true
  | .roundLS _ _ => true
  | .truncLS _ _ => true
  | .ceilLS _ _ => true
  | .floorLS _ _ => true
  | .roundWS _ _ => true
  | .truncWS _ _ => true
  | .ceilWS _ _ => true
  | .floorWS _ _ => true
  | .cvtWS _ _ => true
  | .cvtLS _ _ => true
  | .addD _ _ _ => true
  | .subD _ _ _ => true
  | .mulD _ _ _ => true
  | .divD _ _ _ => true
  | .sqrtD _ _ => true
  | .absD _ _ => true
  | .movD _ _ => true
  | .negD _ _ => true
  | .roundLD _ _ => true
  | .truncLD _ _ => true
  | .ceilLD _ _ => true
  | .floorLD _ _ => true
  | .roundWD _ _ => true
  | .truncWD _ _ => true
  | .ceilWD _ _ => true
  | .floorWD _ _ => true
  | .cvtWD _ _ => true
  | .cvtLD _ _ => true
  | .cvtSD _ _ => true
  | .cvtSW _ _ => true
  | .cvtSL _ _ => true
  | .cvtDS _ _ => true
  | .cvtDW _ _ => true
  | .cvtDL _ _ => true
  | .cFS _ _ => true
  | .cUnS _ _ => true
  | .cEqS _ _ => true
  | .cUeqS _ _ => true
  | .cOltS _ _ => true
  | .cUltS _ _ => true
  | .cOleS _ _ => true
  | .cUleS _ _ => true
  | .cSfS _ _ => true
  | .cNgleS _ _ => true
  | .cSeqS _ _ => true
  | .cNglS _ _ => true
  | .cLtS _ _ => true
  | .cNgeS _ _ => true
  | .cLeS _ _ => true
  | .cNgtS _ _ => true
  | .cFD _ _ => true
  | .cUnD _ _ => true
  | .cEqD _ _ => true
  | .cUeqD _ _ => true
  | .cOltD _ _ => true
  | .cUltD _ _ => true
  | .cOleD _ _ => true
  | .cUleD _ _ => true
  | .cSfD _ _ => true
  | .cNgleD _ _ => true
  | .cSeqD _ _ => true
  | .cNglD _ _ => true
  | .cLtD _ _ => true
  | .cNgeD _ _ => true
  | .cLeD _ _ => true
  | .cNgtD _ _ => true

end Sys2Proof
end

