-- ==== Sys2Proof/Decode.lean ====
section
/-! DEFINITION. From instruction words to instructions and back (30_encoding.md). The decoder follows the
maps of R114 to R118 as R119 nests them; it is total, and rejects by name the words that are no
instruction. The encoder is written from the formats of R111. -/

namespace Sys2Proof

/-- The two kinds of word that no row of the opcode table covers. -/
inductive Rejection where
  /-- A reserved encoding: executing it raises Reserved Instruction (30_encoding.md R120, 45_system.md R323). -/
  | reservedInstruction
  /-- A COP1 word R118 assigns to nothing: executing it is 47_fpu_arith.md R361. -/
  | unimplementedCop1
  deriving DecidableEq, Repr

/-- What the decoder answers: an instruction, or why the word is none. -/
abbrev Decoded := Except Rejection Instr

/-! ### Fields of an instruction word (R112) -/

/-- `w[31:26]`. -/
def opcodeOf (w : Word) : BitVec 6 := w.extractLsb' 26 6
/-- `w[25:21]`: `rs`, `base`, `fmt` or a sub-opcode. -/
def rsBits (w : Word) : BitVec 5 := w.extractLsb' 21 5
/-- `w[20:16]`: `rt`, `ft`, a REGIMM sub-opcode or a cache operation. -/
def rtBits (w : Word) : BitVec 5 := w.extractLsb' 16 5
/-- `w[15:11]`: `rd` or `fs`. -/
def rdBits (w : Word) : BitVec 5 := w.extractLsb' 11 5
/-- `w[10:6]`: `sa`, `fd` or `stype`. -/
def saBits (w : Word) : BitVec 5 := w.extractLsb' 6 5
/-- `w[5:0]`. -/
def functOf (w : Word) : BitVec 6 := w.extractLsb' 0 6
/-- `w[15:0]`: an immediate or an offset. -/
def immOf (w : Word) : BitVec 16 := w.extractLsb' 0 16
/-- `w[25:0]`: the jump index. -/
def targetOf (w : Word) : BitVec 26 := w.extractLsb' 0 26
/-- `w[25]`: the CO bit of a COP0 word. -/
def coBit (w : Word) : Bool := w.getLsbD 25
/-- `w[17:16]`: `nd` and `tf` of an FPU branch. -/
def bcBits (w : Word) : BitVec 2 := w.extractLsb' 16 2

/-- The register `rs` (or `base`). -/
def rsOf (w : Word) : Reg := (rsBits w).toFin
/-- The register `rt` (or `ft`). -/
def rtOf (w : Word) : Reg := (rtBits w).toFin
/-- The register `rd` (or `fs`). -/
def rdOf (w : Word) : Reg := (rdBits w).toFin
/-- The register `fd`. -/
def saOf (w : Word) : Reg := (saBits w).toFin
/-- The shift amount, or SYNC's `stype`. -/
def saNat (w : Word) : Nat := (saBits w).toNat
/-- The cache operation. -/
def rtNat (w : Word) : Nat := (rtBits w).toNat
/-- The code of a register trap, `w[15:6]`. -/
def code10 (w : Word) : Nat := (w.extractLsb' 6 10).toNat
/-- The code of SYSCALL and BREAK, `w[25:6]`. -/
def code20 (w : Word) : Nat := (w.extractLsb' 6 20).toNat
/-- The coprocessor-2 function, `w[25:0]`. -/
def cofunOf (w : Word) : Nat := (w.extractLsb' 0 26).toNat

/-! ### The maps -/

/-- The SPECIAL map, by `funct` (R115). -/
def decodeSpecial (w : Word) : Decoded :=
  match functOf w with
  | 0x00#6 => .ok (.sll (rdOf w) (rtOf w) (saNat w))
  | 0x02#6 => .ok (.srl (rdOf w) (rtOf w) (saNat w))
  | 0x03#6 => .ok (.sra (rdOf w) (rtOf w) (saNat w))
  | 0x04#6 => .ok (.sllv (rdOf w) (rtOf w) (rsOf w))
  | 0x06#6 => .ok (.srlv (rdOf w) (rtOf w) (rsOf w))
  | 0x07#6 => .ok (.srav (rdOf w) (rtOf w) (rsOf w))
  | 0x08#6 => .ok (.jr (rsOf w))
  | 0x09#6 => .ok (.jalr (rdOf w) (rsOf w))
  | 0x0C#6 => .ok (.syscall (code20 w))
  | 0x0D#6 => .ok (.brk (code20 w))
  | 0x0F#6 => .ok (.sync (saNat w))
  | 0x10#6 => .ok (.mfhi (rdOf w))
  | 0x11#6 => .ok (.mthi (rsOf w))
  | 0x12#6 => .ok (.mflo (rdOf w))
  | 0x13#6 => .ok (.mtlo (rsOf w))
  | 0x14#6 => .ok (.dsllv (rdOf w) (rtOf w) (rsOf w))
  | 0x16#6 => .ok (.dsrlv (rdOf w) (rtOf w) (rsOf w))
  | 0x17#6 => .ok (.dsrav (rdOf w) (rtOf w) (rsOf w))
  | 0x18#6 => .ok (.mult (rsOf w) (rtOf w))
  | 0x19#6 => .ok (.multu (rsOf w) (rtOf w))
  | 0x1A#6 => .ok (.div (rsOf w) (rtOf w))
  | 0x1B#6 => .ok (.divu (rsOf w) (rtOf w))
  | 0x1C#6 => .ok (.dmult (rsOf w) (rtOf w))
  | 0x1D#6 => .ok (.dmultu (rsOf w) (rtOf w))
  | 0x1E#6 => .ok (.ddiv (rsOf w) (rtOf w))
  | 0x1F#6 => .ok (.ddivu (rsOf w) (rtOf w))
  | 0x20#6 => .ok (.add (rdOf w) (rsOf w) (rtOf w))
  | 0x21#6 => .ok (.addu (rdOf w) (rsOf w) (rtOf w))
  | 0x22#6 => .ok (.sub (rdOf w) (rsOf w) (rtOf w))
  | 0x23#6 => .ok (.subu (rdOf w) (rsOf w) (rtOf w))
  | 0x24#6 => .ok (.and (rdOf w) (rsOf w) (rtOf w))
  | 0x25#6 => .ok (.or (rdOf w) (rsOf w) (rtOf w))
  | 0x26#6 => .ok (.xor (rdOf w) (rsOf w) (rtOf w))
  | 0x27#6 => .ok (.nor (rdOf w) (rsOf w) (rtOf w))
  | 0x2A#6 => .ok (.slt (rdOf w) (rsOf w) (rtOf w))
  | 0x2B#6 => .ok (.sltu (rdOf w) (rsOf w) (rtOf w))
  | 0x2C#6 => .ok (.dadd (rdOf w) (rsOf w) (rtOf w))
  | 0x2D#6 => .ok (.daddu (rdOf w) (rsOf w) (rtOf w))
  | 0x2E#6 => .ok (.dsub (rdOf w) (rsOf w) (rtOf w))
  | 0x2F#6 => .ok (.dsubu (rdOf w) (rsOf w) (rtOf w))
  | 0x30#6 => .ok (.tge (rsOf w) (rtOf w) (code10 w))
  | 0x31#6 => .ok (.tgeu (rsOf w) (rtOf w) (code10 w))
  | 0x32#6 => .ok (.tlt (rsOf w) (rtOf w) (code10 w))
  | 0x33#6 => .ok (.tltu (rsOf w) (rtOf w) (code10 w))
  | 0x34#6 => .ok (.teq (rsOf w) (rtOf w) (code10 w))
  | 0x36#6 => .ok (.tne (rsOf w) (rtOf w) (code10 w))
  | 0x38#6 => .ok (.dsll (rdOf w) (rtOf w) (saNat w))
  | 0x3A#6 => .ok (.dsrl (rdOf w) (rtOf w) (saNat w))
  | 0x3B#6 => .ok (.dsra (rdOf w) (rtOf w) (saNat w))
  | 0x3C#6 => .ok (.dsll32 (rdOf w) (rtOf w) (saNat w))
  | 0x3E#6 => .ok (.dsrl32 (rdOf w) (rtOf w) (saNat w))
  | 0x3F#6 => .ok (.dsra32 (rdOf w) (rtOf w) (saNat w))
  | _ => .error .reservedInstruction

/-- The REGIMM map, by `rt` (R116). -/
def decodeRegimm (w : Word) : Decoded :=
  match rtBits w with
  | 0x00#5 => .ok (.bltz (rsOf w) (immOf w))
  | 0x01#5 => .ok (.bgez (rsOf w) (immOf w))
  | 0x02#5 => .ok (.bltzl (rsOf w) (immOf w))
  | 0x03#5 => .ok (.bgezl (rsOf w) (immOf w))
  | 0x08#5 => .ok (.tgei (rsOf w) (immOf w))
  | 0x09#5 => .ok (.tgeiu (rsOf w) (immOf w))
  | 0x0A#5 => .ok (.tlti (rsOf w) (immOf w))
  | 0x0B#5 => .ok (.tltiu (rsOf w) (immOf w))
  | 0x0C#5 => .ok (.teqi (rsOf w) (immOf w))
  | 0x0E#5 => .ok (.tnei (rsOf w) (immOf w))
  | 0x10#5 => .ok (.bltzal (rsOf w) (immOf w))
  | 0x11#5 => .ok (.bgezal (rsOf w) (immOf w))
  | 0x12#5 => .ok (.bltzall (rsOf w) (immOf w))
  | 0x13#5 => .ok (.bgezall (rsOf w) (immOf w))
  | _ => .error .reservedInstruction

/-- The COP0 CO map, by `funct` (R117). -/
def decodeCo (w : Word) : Decoded :=
  match functOf w with
  | 0x01#6 => .ok .tlbr
  | 0x02#6 => .ok .tlbwi
  | 0x06#6 => .ok .tlbwr
  | 0x08#6 => .ok .tlbp
  | 0x18#6 => .ok .eret
  | _ => .error .reservedInstruction

/-- The COP0 map by `rs`, for words without the CO bit (R117). -/
def decodeCop0Rs (w : Word) : Decoded :=
  match rsBits w with
  | 0x00#5 => .ok (.mfc0 (rtOf w) (rdOf w))
  | 0x01#5 => .ok (.dmfc0 (rtOf w) (rdOf w))
  | 0x04#5 => .ok (.mtc0 (rtOf w) (rdOf w))
  | 0x05#5 => .ok (.dmtc0 (rtOf w) (rdOf w))
  | _ => .error .reservedInstruction

/-- COP0 words (R117, R119). -/
def decodeCop0 (w : Word) : Decoded :=
  if coBit w then decodeCo w else decodeCop0Rs w

/-- The FPU branches, by `nd` and `tf` (R118). -/
def decodeBc (w : Word) : Decoded :=
  match bcBits w with
  | 0x00#2 => .ok (.bc1f (immOf w))
  | 0x01#2 => .ok (.bc1t (immOf w))
  | 0x02#2 => .ok (.bc1fl (immOf w))
  | 0x03#2 => .ok (.bc1tl (immOf w))

/-- The COP1 operations of format S, by `funct` (R118). -/
def decodeFmtS (w : Word) : Decoded :=
  match functOf w with
  | 0x00#6 => .ok (.addS (saOf w) (rdOf w) (rtOf w))
  | 0x01#6 => .ok (.subS (saOf w) (rdOf w) (rtOf w))
  | 0x02#6 => .ok (.mulS (saOf w) (rdOf w) (rtOf w))
  | 0x03#6 => .ok (.divS (saOf w) (rdOf w) (rtOf w))
  | 0x04#6 => .ok (.sqrtS (saOf w) (rdOf w))
  | 0x05#6 => .ok (.absS (saOf w) (rdOf w))
  | 0x06#6 => .ok (.movS (saOf w) (rdOf w))
  | 0x07#6 => .ok (.negS (saOf w) (rdOf w))
  | 0x08#6 => .ok (.roundLS (saOf w) (rdOf w))
  | 0x09#6 => .ok (.truncLS (saOf w) (rdOf w))
  | 0x0A#6 => .ok (.ceilLS (saOf w) (rdOf w))
  | 0x0B#6 => .ok (.floorLS (saOf w) (rdOf w))
  | 0x0C#6 => .ok (.roundWS (saOf w) (rdOf w))
  | 0x0D#6 => .ok (.truncWS (saOf w) (rdOf w))
  | 0x0E#6 => .ok (.ceilWS (saOf w) (rdOf w))
  | 0x0F#6 => .ok (.floorWS (saOf w) (rdOf w))
  | 0x21#6 => .ok (.cvtDS (saOf w) (rdOf w))
  | 0x24#6 => .ok (.cvtWS (saOf w) (rdOf w))
  | 0x25#6 => .ok (.cvtLS (saOf w) (rdOf w))
  | 0x30#6 => .ok (.cFS (rdOf w) (rtOf w))
  | 0x31#6 => .ok (.cUnS (rdOf w) (rtOf w))
  | 0x32#6 => .ok (.cEqS (rdOf w) (rtOf w))
  | 0x33#6 => .ok (.cUeqS (rdOf w) (rtOf w))
  | 0x34#6 => .ok (.cOltS (rdOf w) (rtOf w))
  | 0x35#6 => .ok (.cUltS (rdOf w) (rtOf w))
  | 0x36#6 => .ok (.cOleS (rdOf w) (rtOf w))
  | 0x37#6 => .ok (.cUleS (rdOf w) (rtOf w))
  | 0x38#6 => .ok (.cSfS (rdOf w) (rtOf w))
  | 0x39#6 => .ok (.cNgleS (rdOf w) (rtOf w))
  | 0x3A#6 => .ok (.cSeqS (rdOf w) (rtOf w))
  | 0x3B#6 => .ok (.cNglS (rdOf w) (rtOf w))
  | 0x3C#6 => .ok (.cLtS (rdOf w) (rtOf w))
  | 0x3D#6 => .ok (.cNgeS (rdOf w) (rtOf w))
  | 0x3E#6 => .ok (.cLeS (rdOf w) (rtOf w))
  | 0x3F#6 => .ok (.cNgtS (rdOf w) (rtOf w))
  | _ => .error .unimplementedCop1

/-- The COP1 operations of format D, by `funct` (R118). -/
def decodeFmtD (w : Word) : Decoded :=
  match functOf w with
  | 0x00#6 => .ok (.addD (saOf w) (rdOf w) (rtOf w))
  | 0x01#6 => .ok (.subD (saOf w) (rdOf w) (rtOf w))
  | 0x02#6 => .ok (.mulD (saOf w) (rdOf w) (rtOf w))
  | 0x03#6 => .ok (.divD (saOf w) (rdOf w) (rtOf w))
  | 0x04#6 => .ok (.sqrtD (saOf w) (rdOf w))
  | 0x05#6 => .ok (.absD (saOf w) (rdOf w))
  | 0x06#6 => .ok (.movD (saOf w) (rdOf w))
  | 0x07#6 => .ok (.negD (saOf w) (rdOf w))
  | 0x08#6 => .ok (.roundLD (saOf w) (rdOf w))
  | 0x09#6 => .ok (.truncLD (saOf w) (rdOf w))
  | 0x0A#6 => .ok (.ceilLD (saOf w) (rdOf w))
  | 0x0B#6 => .ok (.floorLD (saOf w) (rdOf w))
  | 0x0C#6 => .ok (.roundWD (saOf w) (rdOf w))
  | 0x0D#6 => .ok (.truncWD (saOf w) (rdOf w))
  | 0x0E#6 => .ok (.ceilWD (saOf w) (rdOf w))
  | 0x0F#6 => .ok (.floorWD (saOf w) (rdOf w))
  | 0x20#6 => .ok (.cvtSD (saOf w) (rdOf w))
  | 0x24#6 => .ok (.cvtWD (saOf w) (rdOf w))
  | 0x25#6 => .ok (.cvtLD (saOf w) (rdOf w))
  | 0x30#6 => .ok (.cFD (rdOf w) (rtOf w))
  | 0x31#6 => .ok (.cUnD (rdOf w) (rtOf w))
  | 0x32#6 => .ok (.cEqD (rdOf w) (rtOf w))
  | 0x33#6 => .ok (.cUeqD (rdOf w) (rtOf w))
  | 0x34#6 => .ok (.cOltD (rdOf w) (rtOf w))
  | 0x35#6 => .ok (.cUltD (rdOf w) (rtOf w))
  | 0x36#6 => .ok (.cOleD (rdOf w) (rtOf w))
  | 0x37#6 => .ok (.cUleD (rdOf w) (rtOf w))
  | 0x38#6 => .ok (.cSfD (rdOf w) (rtOf w))
  | 0x39#6 => .ok (.cNgleD (rdOf w) (rtOf w))
  | 0x3A#6 => .ok (.cSeqD (rdOf w) (rtOf w))
  | 0x3B#6 => .ok (.cNglD (rdOf w) (rtOf w))
  | 0x3C#6 => .ok (.cLtD (rdOf w) (rtOf w))
  | 0x3D#6 => .ok (.cNgeD (rdOf w) (rtOf w))
  | 0x3E#6 => .ok (.cLeD (rdOf w) (rtOf w))
  | 0x3F#6 => .ok (.cNgtD (rdOf w) (rtOf w))
  | _ => .error .unimplementedCop1

/-- The COP1 operations of format W, by `funct` (R118). -/
def decodeFmtW (w : Word) : Decoded :=
  match functOf w with
  | 0x20#6 => .ok (.cvtSW (saOf w) (rdOf w))
  | 0x21#6 => .ok (.cvtDW (saOf w) (rdOf w))
  | _ => .error .unimplementedCop1

/-- The COP1 operations of format L, by `funct` (R118). -/
def decodeFmtL (w : Word) : Decoded :=
  match functOf w with
  | 0x20#6 => .ok (.cvtSL (saOf w) (rdOf w))
  | 0x21#6 => .ok (.cvtDL (saOf w) (rdOf w))
  | _ => .error .unimplementedCop1

/-- The COP1 map, by `rs` (R118). -/
def decodeCop1 (w : Word) : Decoded :=
  match rsBits w with
  | 0x00#5 => .ok (.mfc1 (rtOf w) (rdOf w))
  | 0x01#5 => .ok (.dmfc1 (rtOf w) (rdOf w))
  | 0x02#5 => .ok (.cfc1 (rtOf w) (rdOf w))
  | 0x04#5 => .ok (.mtc1 (rtOf w) (rdOf w))
  | 0x05#5 => .ok (.dmtc1 (rtOf w) (rdOf w))
  | 0x06#5 => .ok (.ctc1 (rtOf w) (rdOf w))
  | 0x08#5 => decodeBc w
  | 0x10#5 => decodeFmtS w
  | 0x11#5 => decodeFmtD w
  | 0x14#5 => decodeFmtW w
  | 0x15#5 => decodeFmtL w
  | _ => .error .unimplementedCop1

/-- `Decode(w)` (R119): the primary opcode map (R114), with its sub-maps. The fields a format does not
use are not examined (R123). -/
def decode (w : Word) : Decoded :=
  match opcodeOf w with
  | 0x00#6 => decodeSpecial w
  | 0x01#6 => decodeRegimm w
  | 0x02#6 => .ok (.j (targetOf w))
  | 0x03#6 => .ok (.jal (targetOf w))
  | 0x04#6 => .ok (.beq (rsOf w) (rtOf w) (immOf w))
  | 0x05#6 => .ok (.bne (rsOf w) (rtOf w) (immOf w))
  | 0x06#6 => .ok (.blez (rsOf w) (immOf w))
  | 0x07#6 => .ok (.bgtz (rsOf w) (immOf w))
  | 0x08#6 => .ok (.addi (rtOf w) (rsOf w) (immOf w))
  | 0x09#6 => .ok (.addiu (rtOf w) (rsOf w) (immOf w))
  | 0x0A#6 => .ok (.slti (rtOf w) (rsOf w) (immOf w))
  | 0x0B#6 => .ok (.sltiu (rtOf w) (rsOf w) (immOf w))
  | 0x0C#6 => .ok (.andi (rtOf w) (rsOf w) (immOf w))
  | 0x0D#6 => .ok (.ori (rtOf w) (rsOf w) (immOf w))
  | 0x0E#6 => .ok (.xori (rtOf w) (rsOf w) (immOf w))
  | 0x0F#6 => .ok (.lui (rtOf w) (immOf w))
  | 0x10#6 => decodeCop0 w
  | 0x11#6 => decodeCop1 w
  | 0x12#6 => .ok (.cop2 (cofunOf w))
  | 0x14#6 => .ok (.beql (rsOf w) (rtOf w) (immOf w))
  | 0x15#6 => .ok (.bnel (rsOf w) (rtOf w) (immOf w))
  | 0x16#6 => .ok (.blezl (rsOf w) (immOf w))
  | 0x17#6 => .ok (.bgtzl (rsOf w) (immOf w))
  | 0x18#6 => .ok (.daddi (rtOf w) (rsOf w) (immOf w))
  | 0x19#6 => .ok (.daddiu (rtOf w) (rsOf w) (immOf w))
  | 0x1A#6 => .ok (.ldl (rtOf w) (rsOf w) (immOf w))
  | 0x1B#6 => .ok (.ldr (rtOf w) (rsOf w) (immOf w))
  | 0x20#6 => .ok (.lb (rtOf w) (rsOf w) (immOf w))
  | 0x21#6 => .ok (.lh (rtOf w) (rsOf w) (immOf w))
  | 0x22#6 => .ok (.lwl (rtOf w) (rsOf w) (immOf w))
  | 0x23#6 => .ok (.lw (rtOf w) (rsOf w) (immOf w))
  | 0x24#6 => .ok (.lbu (rtOf w) (rsOf w) (immOf w))
  | 0x25#6 => .ok (.lhu (rtOf w) (rsOf w) (immOf w))
  | 0x26#6 => .ok (.lwr (rtOf w) (rsOf w) (immOf w))
  | 0x27#6 => .ok (.lwu (rtOf w) (rsOf w) (immOf w))
  | 0x28#6 => .ok (.sb (rtOf w) (rsOf w) (immOf w))
  | 0x29#6 => .ok (.sh (rtOf w) (rsOf w) (immOf w))
  | 0x2A#6 => .ok (.swl (rtOf w) (rsOf w) (immOf w))
  | 0x2B#6 => .ok (.sw (rtOf w) (rsOf w) (immOf w))
  | 0x2C#6 => .ok (.sdl (rtOf w) (rsOf w) (immOf w))
  | 0x2D#6 => .ok (.sdr (rtOf w) (rsOf w) (immOf w))
  | 0x2E#6 => .ok (.swr (rtOf w) (rsOf w) (immOf w))
  | 0x2F#6 => .ok (.cache (rtNat w) (rsOf w) (immOf w))
  | 0x30#6 => .ok (.ll (rtOf w) (rsOf w) (immOf w))
  | 0x31#6 => .ok (.lwc1 (rtOf w) (rsOf w) (immOf w))
  | 0x32#6 => .ok (.lwc2 (rtOf w) (rsOf w) (immOf w))
  | 0x34#6 => .ok (.lld (rtOf w) (rsOf w) (immOf w))
  | 0x35#6 => .ok (.ldc1 (rtOf w) (rsOf w) (immOf w))
  | 0x36#6 => .ok (.ldc2 (rtOf w) (rsOf w) (immOf w))
  | 0x37#6 => .ok (.ld (rtOf w) (rsOf w) (immOf w))
  | 0x38#6 => .ok (.sc (rtOf w) (rsOf w) (immOf w))
  | 0x39#6 => .ok (.swc1 (rtOf w) (rsOf w) (immOf w))
  | 0x3A#6 => .ok (.swc2 (rtOf w) (rsOf w) (immOf w))
  | 0x3C#6 => .ok (.scd (rtOf w) (rsOf w) (immOf w))
  | 0x3D#6 => .ok (.sdc1 (rtOf w) (rsOf w) (immOf w))
  | 0x3E#6 => .ok (.sdc2 (rtOf w) (rsOf w) (immOf w))
  | 0x3F#6 => .ok (.sd (rtOf w) (rsOf w) (immOf w))
  | _ => .error .reservedInstruction

/-- The instruction the decoder reads from a table word: `nbits` bits given, every bit above them 0. Every
instruction is one 32-bit word (R110), so bit 0 of `w` is bit 0 of the word. -/
def decodeTableWord (nbits w : Nat) : Option Instr :=
  match decode (BitVec.ofNat 32 (w % 2 ^ nbits)) with
  | .ok i => some i
  | .error _ => none

/-! ### The encoder (R111): fields an instruction does not use are 0 -/

/-- A register number as a 5-bit field. -/
def regField (r : Reg) : BitVec 5 := BitVec.ofFin r
/-- R-type: opcode, rs, rt, rd, sa, funct. -/
def encodeR (opcode : BitVec 6) (rs rt rd sa : BitVec 5) (funct : BitVec 6) : Word :=
  opcode ++ rs ++ rt ++ rd ++ sa ++ funct
/-- I-type: opcode, rs, rt, immediate. -/
def encodeI (opcode : BitVec 6) (rs rt : BitVec 5) (imm : BitVec 16) : Word :=
  opcode ++ rs ++ rt ++ imm
/-- J-type: opcode, index. COP2 words have this shape too. -/
def encodeJ (opcode : BitVec 6) (index : BitVec 26) : Word := opcode ++ index
/-- SYSCALL and BREAK: opcode 0, a 20-bit code, funct. -/
def encodeCode (code : BitVec 20) (funct : BitVec 6) : Word := 0#6 ++ code ++ funct
/-- Register traps: opcode 0, rs, rt, a 10-bit code, funct. -/
def encodeTrap (rs rt : BitVec 5) (code : BitVec 10) (funct : BitVec 6) : Word :=
  0#6 ++ rs ++ rt ++ code ++ funct
/-- COP0 CO: opcode 0x10, bit 25, zeros, funct. -/
def encodeCo (funct : BitVec 6) : Word := 0x10#6 ++ 1#1 ++ 0#19 ++ funct

/-- The word of an instruction, its unused fields 0. -/
def encode (i : Instr) : Word :=
  match i with
  | .add rd rs rt => encodeR 0x00#6 (regField rs) (regField rt) (regField rd) 0#5 0x20#6
  | .addu rd rs rt => encodeR 0x00#6 (regField rs) (regField rt) (regField rd) 0#5 0x21#6
  | .sub rd rs rt => encodeR 0x00#6 (regField rs) (regField rt) (regField rd) 0#5 0x22#6
  | .subu rd rs rt => encodeR 0x00#6 (regField rs) (regField rt) (regField rd) 0#5 0x23#6
  | .and rd rs rt => encodeR 0x00#6 (regField rs) (regField rt) (regField rd) 0#5 0x24#6
  | .or rd rs rt => encodeR 0x00#6 (regField rs) (regField rt) (regField rd) 0#5 0x25#6
  | .xor rd rs rt => encodeR 0x00#6 (regField rs) (regField rt) (regField rd) 0#5 0x26#6
  | .nor rd rs rt => encodeR 0x00#6 (regField rs) (regField rt) (regField rd) 0#5 0x27#6
  | .slt rd rs rt => encodeR 0x00#6 (regField rs) (regField rt) (regField rd) 0#5 0x2A#6
  | .sltu rd rs rt => encodeR 0x00#6 (regField rs) (regField rt) (regField rd) 0#5 0x2B#6
  | .sll rd rt sa => encodeR 0x00#6 0#5 (regField rt) (regField rd) (BitVec.ofNat 5 sa) 0x00#6
  | .srl rd rt sa => encodeR 0x00#6 0#5 (regField rt) (regField rd) (BitVec.ofNat 5 sa) 0x02#6
  | .sra rd rt sa => encodeR 0x00#6 0#5 (regField rt) (regField rd) (BitVec.ofNat 5 sa) 0x03#6
  | .sllv rd rt rs => encodeR 0x00#6 (regField rs) (regField rt) (regField rd) 0#5 0x04#6
  | .srlv rd rt rs => encodeR 0x00#6 (regField rs) (regField rt) (regField rd) 0#5 0x06#6
  | .srav rd rt rs => encodeR 0x00#6 (regField rs) (regField rt) (regField rd) 0#5 0x07#6
  | .addi rt rs imm => encodeI 0x08#6 (regField rs) (regField rt) imm
  | .addiu rt rs imm => encodeI 0x09#6 (regField rs) (regField rt) imm
  | .slti rt rs imm => encodeI 0x0A#6 (regField rs) (regField rt) imm
  | .sltiu rt rs imm => encodeI 0x0B#6 (regField rs) (regField rt) imm
  | .andi rt rs imm => encodeI 0x0C#6 (regField rs) (regField rt) imm
  | .ori rt rs imm => encodeI 0x0D#6 (regField rs) (regField rt) imm
  | .xori rt rs imm => encodeI 0x0E#6 (regField rs) (regField rt) imm
  | .lui rt imm => encodeI 0x0F#6 0#5 (regField rt) imm
  | .mult rs rt => encodeR 0x00#6 (regField rs) (regField rt) 0#5 0#5 0x18#6
  | .multu rs rt => encodeR 0x00#6 (regField rs) (regField rt) 0#5 0#5 0x19#6
  | .div rs rt => encodeR 0x00#6 (regField rs) (regField rt) 0#5 0#5 0x1A#6
  | .divu rs rt => encodeR 0x00#6 (regField rs) (regField rt) 0#5 0#5 0x1B#6
  | .mfhi rd => encodeR 0x00#6 0#5 0#5 (regField rd) 0#5 0x10#6
  | .mthi rs => encodeR 0x00#6 (regField rs) 0#5 0#5 0#5 0x11#6
  | .mflo rd => encodeR 0x00#6 0#5 0#5 (regField rd) 0#5 0x12#6
  | .mtlo rs => encodeR 0x00#6 (regField rs) 0#5 0#5 0#5 0x13#6
  | .j target => encodeJ 0x02#6 target
  | .jal target => encodeJ 0x03#6 target
  | .jr rs => encodeR 0x00#6 (regField rs) 0#5 0#5 0#5 0x08#6
  | .jalr rd rs => encodeR 0x00#6 (regField rs) 0#5 (regField rd) 0#5 0x09#6
  | .beq rs rt offset => encodeI 0x04#6 (regField rs) (regField rt) offset
  | .bne rs rt offset => encodeI 0x05#6 (regField rs) (regField rt) offset
  | .blez rs offset => encodeI 0x06#6 (regField rs) 0#5 offset
  | .bgtz rs offset => encodeI 0x07#6 (regField rs) 0#5 offset
  | .beql rs rt offset => encodeI 0x14#6 (regField rs) (regField rt) offset
  | .bnel rs rt offset => encodeI 0x15#6 (regField rs) (regField rt) offset
  | .blezl rs offset => encodeI 0x16#6 (regField rs) 0#5 offset
  | .bgtzl rs offset => encodeI 0x17#6 (regField rs) 0#5 offset
  | .bltz rs offset => encodeI 0x01#6 (regField rs) 0x00#5 offset
  | .bgez rs offset => encodeI 0x01#6 (regField rs) 0x01#5 offset
  | .bltzal rs offset => encodeI 0x01#6 (regField rs) 0x10#5 offset
  | .bgezal rs offset => encodeI 0x01#6 (regField rs) 0x11#5 offset
  | .bltzl rs offset => encodeI 0x01#6 (regField rs) 0x02#5 offset
  | .bgezl rs offset => encodeI 0x01#6 (regField rs) 0x03#5 offset
  | .bltzall rs offset => encodeI 0x01#6 (regField rs) 0x12#5 offset
  | .bgezall rs offset => encodeI 0x01#6 (regField rs) 0x13#5 offset
  | .lb rt base offset => encodeI 0x20#6 (regField base) (regField rt) offset
  | .lbu rt base offset => encodeI 0x24#6 (regField base) (regField rt) offset
  | .lh rt base offset => encodeI 0x21#6 (regField base) (regField rt) offset
  | .lhu rt base offset => encodeI 0x25#6 (regField base) (regField rt) offset
  | .lw rt base offset => encodeI 0x23#6 (regField base) (regField rt) offset
  | .sb rt base offset => encodeI 0x28#6 (regField base) (regField rt) offset
  | .sh rt base offset => encodeI 0x29#6 (regField base) (regField rt) offset
  | .sw rt base offset => encodeI 0x2B#6 (regField base) (regField rt) offset
  | .swl rt base offset => encodeI 0x2A#6 (regField base) (regField rt) offset
  | .swr rt base offset => encodeI 0x2E#6 (regField base) (regField rt) offset
  | .lwl rt base offset => encodeI 0x22#6 (regField base) (regField rt) offset
  | .lwr rt base offset => encodeI 0x26#6 (regField base) (regField rt) offset
  | .ll rt base offset => encodeI 0x30#6 (regField base) (regField rt) offset
  | .sc rt base offset => encodeI 0x38#6 (regField base) (regField rt) offset
  | .sync stype => encodeR 0x00#6 0#5 0#5 0#5 (BitVec.ofNat 5 stype) 0x0F#6
  | .cache op base offset => encodeI 0x2F#6 (regField base) (BitVec.ofNat 5 op) offset
  | .syscall code => encodeCode (BitVec.ofNat 20 code) 0x0C#6
  | .brk code => encodeCode (BitVec.ofNat 20 code) 0x0D#6
  | .tge rs rt code => encodeTrap (regField rs) (regField rt) (BitVec.ofNat 10 code) 0x30#6
  | .tgeu rs rt code => encodeTrap (regField rs) (regField rt) (BitVec.ofNat 10 code) 0x31#6
  | .tlt rs rt code => encodeTrap (regField rs) (regField rt) (BitVec.ofNat 10 code) 0x32#6
  | .tltu rs rt code => encodeTrap (regField rs) (regField rt) (BitVec.ofNat 10 code) 0x33#6
  | .teq rs rt code => encodeTrap (regField rs) (regField rt) (BitVec.ofNat 10 code) 0x34#6
  | .tne rs rt code => encodeTrap (regField rs) (regField rt) (BitVec.ofNat 10 code) 0x36#6
  | .mfc0 rt rd => encodeR 0x10#6 0x00#5 (regField rt) (regField rd) 0#5 0#6
  | .mtc0 rt rd => encodeR 0x10#6 0x04#5 (regField rt) (regField rd) 0#5 0#6
  | .eret => encodeCo 0x18#6
  | .tgei rs imm => encodeI 0x01#6 (regField rs) 0x08#5 imm
  | .tgeiu rs imm => encodeI 0x01#6 (regField rs) 0x09#5 imm
  | .tlti rs imm => encodeI 0x01#6 (regField rs) 0x0A#5 imm
  | .tltiu rs imm => encodeI 0x01#6 (regField rs) 0x0B#5 imm
  | .teqi rs imm => encodeI 0x01#6 (regField rs) 0x0C#5 imm
  | .tnei rs imm => encodeI 0x01#6 (regField rs) 0x0E#5 imm
  | .tlbr => encodeCo 0x01#6
  | .tlbwi => encodeCo 0x02#6
  | .tlbwr => encodeCo 0x06#6
  | .tlbp => encodeCo 0x08#6
  | .daddi rt rs imm => encodeI 0x18#6 (regField rs) (regField rt) imm
  | .daddiu rt rs imm => encodeI 0x19#6 (regField rs) (regField rt) imm
  | .ldl rt base offset => encodeI 0x1A#6 (regField base) (regField rt) offset
  | .ldr rt base offset => encodeI 0x1B#6 (regField base) (regField rt) offset
  | .lwu rt base offset => encodeI 0x27#6 (regField base) (regField rt) offset
  | .sdl rt base offset => encodeI 0x2C#6 (regField base) (regField rt) offset
  | .sdr rt base offset => encodeI 0x2D#6 (regField base) (regField rt) offset
  | .lld rt base offset => encodeI 0x34#6 (regField base) (regField rt) offset
  | .ld rt base offset => encodeI 0x37#6 (regField base) (regField rt) offset
  | .scd rt base offset => encodeI 0x3C#6 (regField base) (regField rt) offset
  | .sd rt base offset => encodeI 0x3F#6 (regField base) (regField rt) offset
  | .dsllv rd rt rs => encodeR 0x00#6 (regField rs) (regField rt) (regField rd) 0#5 0x14#6
  | .dsrlv rd rt rs => encodeR 0x00#6 (regField rs) (regField rt) (regField rd) 0#5 0x16#6
  | .dsrav rd rt rs => encodeR 0x00#6 (regField rs) (regField rt) (regField rd) 0#5 0x17#6
  | .dadd rd rs rt => encodeR 0x00#6 (regField rs) (regField rt) (regField rd) 0#5 0x2C#6
  | .daddu rd rs rt => encodeR 0x00#6 (regField rs) (regField rt) (regField rd) 0#5 0x2D#6
  | .dsub rd rs rt => encodeR 0x00#6 (regField rs) (regField rt) (regField rd) 0#5 0x2E#6
  | .dsubu rd rs rt => encodeR 0x00#6 (regField rs) (regField rt) (regField rd) 0#5 0x2F#6
  | .dmult rs rt => encodeR 0x00#6 (regField rs) (regField rt) 0#5 0#5 0x1C#6
  | .dmultu rs rt => encodeR 0x00#6 (regField rs) (regField rt) 0#5 0#5 0x1D#6
  | .ddiv rs rt => encodeR 0x00#6 (regField rs) (regField rt) 0#5 0#5 0x1E#6
  | .ddivu rs rt => encodeR 0x00#6 (regField rs) (regField rt) 0#5 0#5 0x1F#6
  | .dsll rd rt sa => encodeR 0x00#6 0#5 (regField rt) (regField rd) (BitVec.ofNat 5 sa) 0x38#6
  | .dsrl rd rt sa => encodeR 0x00#6 0#5 (regField rt) (regField rd) (BitVec.ofNat 5 sa) 0x3A#6
  | .dsra rd rt sa => encodeR 0x00#6 0#5 (regField rt) (regField rd) (BitVec.ofNat 5 sa) 0x3B#6
  | .dsll32 rd rt sa => encodeR 0x00#6 0#5 (regField rt) (regField rd) (BitVec.ofNat 5 sa) 0x3C#6
  | .dsrl32 rd rt sa => encodeR 0x00#6 0#5 (regField rt) (regField rd) (BitVec.ofNat 5 sa) 0x3E#6
  | .dsra32 rd rt sa => encodeR 0x00#6 0#5 (regField rt) (regField rd) (BitVec.ofNat 5 sa) 0x3F#6
  | .dmfc0 rt rd => encodeR 0x10#6 0x01#5 (regField rt) (regField rd) 0#5 0#6
  | .dmtc0 rt rd => encodeR 0x10#6 0x05#5 (regField rt) (regField rd) 0#5 0#6
  | .dmfc1 rt fs => encodeR 0x11#6 0x01#5 (regField rt) (regField fs) 0#5 0#6
  | .dmtc1 rt fs => encodeR 0x11#6 0x05#5 (regField rt) (regField fs) 0#5 0#6
  | .cop2 cofun => encodeJ 0x12#6 (BitVec.ofNat 26 cofun)
  | .lwc2 rt base offset => encodeI 0x32#6 (regField base) (regField rt) offset
  | .ldc2 rt base offset => encodeI 0x36#6 (regField base) (regField rt) offset
  | .swc2 rt base offset => encodeI 0x3A#6 (regField base) (regField rt) offset
  | .sdc2 rt base offset => encodeI 0x3E#6 (regField base) (regField rt) offset
  | .mfc1 rt fs => encodeR 0x11#6 0x00#5 (regField rt) (regField fs) 0#5 0#6
  | .mtc1 rt fs => encodeR 0x11#6 0x04#5 (regField rt) (regField fs) 0#5 0#6
  | .cfc1 rt fs => encodeR 0x11#6 0x02#5 (regField rt) (regField fs) 0#5 0#6
  | .ctc1 rt fs => encodeR 0x11#6 0x06#5 (regField rt) (regField fs) 0#5 0#6
  | .lwc1 ft base offset => encodeI 0x31#6 (regField base) (regField ft) offset
  | .swc1 ft base offset => encodeI 0x39#6 (regField base) (regField ft) offset
  | .ldc1 ft base offset => encodeI 0x35#6 (regField base) (regField ft) offset
  | .sdc1 ft base offset => encodeI 0x3D#6 (regField base) (regField ft) offset
  | .bc1f offset => encodeI 0x11#6 0x08#5 0x00#5 offset
  | .bc1t offset => encodeI 0x11#6 0x08#5 0x01#5 offset
  | .bc1fl offset => encodeI 0x11#6 0x08#5 0x02#5 offset
  | .bc1tl offset => encodeI 0x11#6 0x08#5 0x03#5 offset
  | .addS fd fs ft => encodeR 0x11#6 0x10#5 (regField ft) (regField fs) (regField fd) 0x00#6
  | .subS fd fs ft => encodeR 0x11#6 0x10#5 (regField ft) (regField fs) (regField fd) 0x01#6
  | .mulS fd fs ft => encodeR 0x11#6 0x10#5 (regField ft) (regField fs) (regField fd) 0x02#6
  | .divS fd fs ft => encodeR 0x11#6 0x10#5 (regField ft) (regField fs) (regField fd) 0x03#6
  | .sqrtS fd fs => encodeR 0x11#6 0x10#5 0#5 (regField fs) (regField fd) 0x04#6
  | .absS fd fs => encodeR 0x11#6 0x10#5 0#5 (regField fs) (regField fd) 0x05#6
  | .movS fd fs => encodeR 0x11#6 0x10#5 0#5 (regField fs) (regField fd) 0x06#6
  | .negS fd fs => encodeR 0x11#6 0x10#5 0#5 (regField fs) (regField fd) 0x07#6
  | .roundLS fd fs => encodeR 0x11#6 0x10#5 0#5 (regField fs) (regField fd) 0x08#6
  | .truncLS fd fs => encodeR 0x11#6 0x10#5 0#5 (regField fs) (regField fd) 0x09#6
  | .ceilLS fd fs => encodeR 0x11#6 0x10#5 0#5 (regField fs) (regField fd) 0x0A#6
  | .floorLS fd fs => encodeR 0x11#6 0x10#5 0#5 (regField fs) (regField fd) 0x0B#6
  | .roundWS fd fs => encodeR 0x11#6 0x10#5 0#5 (regField fs) (regField fd) 0x0C#6
  | .truncWS fd fs => encodeR 0x11#6 0x10#5 0#5 (regField fs) (regField fd) 0x0D#6
  | .ceilWS fd fs => encodeR 0x11#6 0x10#5 0#5 (regField fs) (regField fd) 0x0E#6
  | .floorWS fd fs => encodeR 0x11#6 0x10#5 0#5 (regField fs) (regField fd) 0x0F#6
  | .cvtWS fd fs => encodeR 0x11#6 0x10#5 0#5 (regField fs) (regField fd) 0x24#6
  | .cvtLS fd fs => encodeR 0x11#6 0x10#5 0#5 (regField fs) (regField fd) 0x25#6
  | .addD fd fs ft => encodeR 0x11#6 0x11#5 (regField ft) (regField fs) (regField fd) 0x00#6
  | .subD fd fs ft => encodeR 0x11#6 0x11#5 (regField ft) (regField fs) (regField fd) 0x01#6
  | .mulD fd fs ft => encodeR 0x11#6 0x11#5 (regField ft) (regField fs) (regField fd) 0x02#6
  | .divD fd fs ft => encodeR 0x11#6 0x11#5 (regField ft) (regField fs) (regField fd) 0x03#6
  | .sqrtD fd fs => encodeR 0x11#6 0x11#5 0#5 (regField fs) (regField fd) 0x04#6
  | .absD fd fs => encodeR 0x11#6 0x11#5 0#5 (regField fs) (regField fd) 0x05#6
  | .movD fd fs => encodeR 0x11#6 0x11#5 0#5 (regField fs) (regField fd) 0x06#6
  | .negD fd fs => encodeR 0x11#6 0x11#5 0#5 (regField fs) (regField fd) 0x07#6
  | .roundLD fd fs => encodeR 0x11#6 0x11#5 0#5 (regField fs) (regField fd) 0x08#6
  | .truncLD fd fs => encodeR 0x11#6 0x11#5 0#5 (regField fs) (regField fd) 0x09#6
  | .ceilLD fd fs => encodeR 0x11#6 0x11#5 0#5 (regField fs) (regField fd) 0x0A#6
  | .floorLD fd fs => encodeR 0x11#6 0x11#5 0#5 (regField fs) (regField fd) 0x0B#6
  | .roundWD fd fs => encodeR 0x11#6 0x11#5 0#5 (regField fs) (regField fd) 0x0C#6
  | .truncWD fd fs => encodeR 0x11#6 0x11#5 0#5 (regField fs) (regField fd) 0x0D#6
  | .ceilWD fd fs => encodeR 0x11#6 0x11#5 0#5 (regField fs) (regField fd) 0x0E#6
  | .floorWD fd fs => encodeR 0x11#6 0x11#5 0#5 (regField fs) (regField fd) 0x0F#6
  | .cvtWD fd fs => encodeR 0x11#6 0x11#5 0#5 (regField fs) (regField fd) 0x24#6
  | .cvtLD fd fs => encodeR 0x11#6 0x11#5 0#5 (regField fs) (regField fd) 0x25#6
  | .cvtSD fd fs => encodeR 0x11#6 0x11#5 0#5 (regField fs) (regField fd) 0x20#6
  | .cvtSW fd fs => encodeR 0x11#6 0x14#5 0#5 (regField fs) (regField fd) 0x20#6
  | .cvtSL fd fs => encodeR 0x11#6 0x15#5 0#5 (regField fs) (regField fd) 0x20#6
  | .cvtDS fd fs => encodeR 0x11#6 0x10#5 0#5 (regField fs) (regField fd) 0x21#6
  | .cvtDW fd fs => encodeR 0x11#6 0x14#5 0#5 (regField fs) (regField fd) 0x21#6
  | .cvtDL fd fs => encodeR 0x11#6 0x15#5 0#5 (regField fs) (regField fd) 0x21#6
  | .cFS fs ft => encodeR 0x11#6 0x10#5 (regField ft) (regField fs) 0#5 0x30#6
  | .cUnS fs ft => encodeR 0x11#6 0x10#5 (regField ft) (regField fs) 0#5 0x31#6
  | .cEqS fs ft => encodeR 0x11#6 0x10#5 (regField ft) (regField fs) 0#5 0x32#6
  | .cUeqS fs ft => encodeR 0x11#6 0x10#5 (regField ft) (regField fs) 0#5 0x33#6
  | .cOltS fs ft => encodeR 0x11#6 0x10#5 (regField ft) (regField fs) 0#5 0x34#6
  | .cUltS fs ft => encodeR 0x11#6 0x10#5 (regField ft) (regField fs) 0#5 0x35#6
  | .cOleS fs ft => encodeR 0x11#6 0x10#5 (regField ft) (regField fs) 0#5 0x36#6
  | .cUleS fs ft => encodeR 0x11#6 0x10#5 (regField ft) (regField fs) 0#5 0x37#6
  | .cSfS fs ft => encodeR 0x11#6 0x10#5 (regField ft) (regField fs) 0#5 0x38#6
  | .cNgleS fs ft => encodeR 0x11#6 0x10#5 (regField ft) (regField fs) 0#5 0x39#6
  | .cSeqS fs ft => encodeR 0x11#6 0x10#5 (regField ft) (regField fs) 0#5 0x3A#6
  | .cNglS fs ft => encodeR 0x11#6 0x10#5 (regField ft) (regField fs) 0#5 0x3B#6
  | .cLtS fs ft => encodeR 0x11#6 0x10#5 (regField ft) (regField fs) 0#5 0x3C#6
  | .cNgeS fs ft => encodeR 0x11#6 0x10#5 (regField ft) (regField fs) 0#5 0x3D#6
  | .cLeS fs ft => encodeR 0x11#6 0x10#5 (regField ft) (regField fs) 0#5 0x3E#6
  | .cNgtS fs ft => encodeR 0x11#6 0x10#5 (regField ft) (regField fs) 0#5 0x3F#6
  | .cFD fs ft => encodeR 0x11#6 0x11#5 (regField ft) (regField fs) 0#5 0x30#6
  | .cUnD fs ft => encodeR 0x11#6 0x11#5 (regField ft) (regField fs) 0#5 0x31#6
  | .cEqD fs ft => encodeR 0x11#6 0x11#5 (regField ft) (regField fs) 0#5 0x32#6
  | .cUeqD fs ft => encodeR 0x11#6 0x11#5 (regField ft) (regField fs) 0#5 0x33#6
  | .cOltD fs ft => encodeR 0x11#6 0x11#5 (regField ft) (regField fs) 0#5 0x34#6
  | .cUltD fs ft => encodeR 0x11#6 0x11#5 (regField ft) (regField fs) 0#5 0x35#6
  | .cOleD fs ft => encodeR 0x11#6 0x11#5 (regField ft) (regField fs) 0#5 0x36#6
  | .cUleD fs ft => encodeR 0x11#6 0x11#5 (regField ft) (regField fs) 0#5 0x37#6
  | .cSfD fs ft => encodeR 0x11#6 0x11#5 (regField ft) (regField fs) 0#5 0x38#6
  | .cNgleD fs ft => encodeR 0x11#6 0x11#5 (regField ft) (regField fs) 0#5 0x39#6
  | .cSeqD fs ft => encodeR 0x11#6 0x11#5 (regField ft) (regField fs) 0#5 0x3A#6
  | .cNglD fs ft => encodeR 0x11#6 0x11#5 (regField ft) (regField fs) 0#5 0x3B#6
  | .cLtD fs ft => encodeR 0x11#6 0x11#5 (regField ft) (regField fs) 0#5 0x3C#6
  | .cNgeD fs ft => encodeR 0x11#6 0x11#5 (regField ft) (regField fs) 0#5 0x3D#6
  | .cLeD fs ft => encodeR 0x11#6 0x11#5 (regField ft) (regField fs) 0#5 0x3E#6
  | .cNgtD fs ft => encodeR 0x11#6 0x11#5 (regField ft) (regField fs) 0#5 0x3F#6

/-! ### The opcode table's own columns -/

/-- The `mask` of the instruction's row in opcode_table.json: the bits the row fixes. -/
def Instr.mask (i : Instr) : Word :=
  match i with
  | .add _ _ _ => 0xFC00003F#32
  | .addu _ _ _ => 0xFC00003F#32
  | .sub _ _ _ => 0xFC00003F#32
  | .subu _ _ _ => 0xFC00003F#32
  | .and _ _ _ => 0xFC00003F#32
  | .or _ _ _ => 0xFC00003F#32
  | .xor _ _ _ => 0xFC00003F#32
  | .nor _ _ _ => 0xFC00003F#32
  | .slt _ _ _ => 0xFC00003F#32
  | .sltu _ _ _ => 0xFC00003F#32
  | .sll _ _ _ => 0xFC00003F#32
  | .srl _ _ _ => 0xFC00003F#32
  | .sra _ _ _ => 0xFC00003F#32
  | .sllv _ _ _ => 0xFC00003F#32
  | .srlv _ _ _ => 0xFC00003F#32
  | .srav _ _ _ => 0xFC00003F#32
  | .addi _ _ _ => 0xFC000000#32
  | .addiu _ _ _ => 0xFC000000#32
  | .slti _ _ _ => 0xFC000000#32
  | .sltiu _ _ _ => 0xFC000000#32
  | .andi _ _ _ => 0xFC000000#32
  | .ori _ _ _ => 0xFC000000#32
  | .xori _ _ _ => 0xFC000000#32
  | .lui _ _ => 0xFC000000#32
  | .mult _ _ => 0xFC00003F#32
  | .multu _ _ => 0xFC00003F#32
  | .div _ _ => 0xFC00003F#32
  | .divu _ _ => 0xFC00003F#32
  | .mfhi _ => 0xFC00003F#32
  | .mthi _ => 0xFC00003F#32
  | .mflo _ => 0xFC00003F#32
  | .mtlo _ => 0xFC00003F#32
  | .j _ => 0xFC000000#32
  | .jal _ => 0xFC000000#32
  | .jr _ => 0xFC00003F#32
  | .jalr _ _ => 0xFC00003F#32
  | .beq _ _ _ => 0xFC000000#32
  | .bne _ _ _ => 0xFC000000#32
  | .blez _ _ => 0xFC000000#32
  | .bgtz _ _ => 0xFC000000#32
  | .beql _ _ _ => 0xFC000000#32
  | .bnel _ _ _ => 0xFC000000#32
  | .blezl _ _ => 0xFC000000#32
  | .bgtzl _ _ => 0xFC000000#32
  | .bltz _ _ => 0xFC1F0000#32
  | .bgez _ _ => 0xFC1F0000#32
  | .bltzal _ _ => 0xFC1F0000#32
  | .bgezal _ _ => 0xFC1F0000#32
  | .bltzl _ _ => 0xFC1F0000#32
  | .bgezl _ _ => 0xFC1F0000#32
  | .bltzall _ _ => 0xFC1F0000#32
  | .bgezall _ _ => 0xFC1F0000#32
  | .lb _ _ _ => 0xFC000000#32
  | .lbu _ _ _ => 0xFC000000#32
  | .lh _ _ _ => 0xFC000000#32
  | .lhu _ _ _ => 0xFC000000#32
  | .lw _ _ _ => 0xFC000000#32
  | .sb _ _ _ => 0xFC000000#32
  | .sh _ _ _ => 0xFC000000#32
  | .sw _ _ _ => 0xFC000000#32
  | .swl _ _ _ => 0xFC000000#32
  | .swr _ _ _ => 0xFC000000#32
  | .lwl _ _ _ => 0xFC000000#32
  | .lwr _ _ _ => 0xFC000000#32
  | .ll _ _ _ => 0xFC000000#32
  | .sc _ _ _ => 0xFC000000#32
  | .sync _ => 0xFC00003F#32
  | .cache _ _ _ => 0xFC000000#32
  | .syscall _ => 0xFC00003F#32
  | .brk _ => 0xFC00003F#32
  | .tge _ _ _ => 0xFC00003F#32
  | .tgeu _ _ _ => 0xFC00003F#32
  | .tlt _ _ _ => 0xFC00003F#32
  | .tltu _ _ _ => 0xFC00003F#32
  | .teq _ _ _ => 0xFC00003F#32
  | .tne _ _ _ => 0xFC00003F#32
  | .mfc0 _ _ => 0xFFE00000#32
  | .mtc0 _ _ => 0xFFE00000#32
  | .eret => 0xFE00003F#32
  | .tgei _ _ => 0xFC1F0000#32
  | .tgeiu _ _ => 0xFC1F0000#32
  | .tlti _ _ => 0xFC1F0000#32
  | .tltiu _ _ => 0xFC1F0000#32
  | .teqi _ _ => 0xFC1F0000#32
  | .tnei _ _ => 0xFC1F0000#32
  | .tlbr => 0xFE00003F#32
  | .tlbwi => 0xFE00003F#32
  | .tlbwr => 0xFE00003F#32
  | .tlbp => 0xFE00003F#32
  | .daddi _ _ _ => 0xFC000000#32
  | .daddiu _ _ _ => 0xFC000000#32
  | .ldl _ _ _ => 0xFC000000#32
  | .ldr _ _ _ => 0xFC000000#32
  | .lwu _ _ _ => 0xFC000000#32
  | .sdl _ _ _ => 0xFC000000#32
  | .sdr _ _ _ => 0xFC000000#32
  | .lld _ _ _ => 0xFC000000#32
  | .ld _ _ _ => 0xFC000000#32
  | .scd _ _ _ => 0xFC000000#32
  | .sd _ _ _ => 0xFC000000#32
  | .dsllv _ _ _ => 0xFC00003F#32
  | .dsrlv _ _ _ => 0xFC00003F#32
  | .dsrav _ _ _ => 0xFC00003F#32
  | .dadd _ _ _ => 0xFC00003F#32
  | .daddu _ _ _ => 0xFC00003F#32
  | .dsub _ _ _ => 0xFC00003F#32
  | .dsubu _ _ _ => 0xFC00003F#32
  | .dmult _ _ => 0xFC00003F#32
  | .dmultu _ _ => 0xFC00003F#32
  | .ddiv _ _ => 0xFC00003F#32
  | .ddivu _ _ => 0xFC00003F#32
  | .dsll _ _ _ => 0xFC00003F#32
  | .dsrl _ _ _ => 0xFC00003F#32
  | .dsra _ _ _ => 0xFC00003F#32
  | .dsll32 _ _ _ => 0xFC00003F#32
  | .dsrl32 _ _ _ => 0xFC00003F#32
  | .dsra32 _ _ _ => 0xFC00003F#32
  | .dmfc0 _ _ => 0xFFE00000#32
  | .dmtc0 _ _ => 0xFFE00000#32
  | .dmfc1 _ _ => 0xFFE00000#32
  | .dmtc1 _ _ => 0xFFE00000#32
  | .cop2 _ => 0xFC000000#32
  | .lwc2 _ _ _ => 0xFC000000#32
  | .ldc2 _ _ _ => 0xFC000000#32
  | .swc2 _ _ _ => 0xFC000000#32
  | .sdc2 _ _ _ => 0xFC000000#32
  | .mfc1 _ _ => 0xFFE00000#32
  | .mtc1 _ _ => 0xFFE00000#32
  | .cfc1 _ _ => 0xFFE00000#32
  | .ctc1 _ _ => 0xFFE00000#32
  | .lwc1 _ _ _ => 0xFC000000#32
  | .swc1 _ _ _ => 0xFC000000#32
  | .ldc1 _ _ _ => 0xFC000000#32
  | .sdc1 _ _ _ => 0xFC000000#32
  | .bc1f _ => 0xFFE30000#32
  | .bc1t _ => 0xFFE30000#32
  | .bc1fl _ => 0xFFE30000#32
  | .bc1tl _ => 0xFFE30000#32
  | .addS _ _ _ => 0xFFE0003F#32
  | .subS _ _ _ => 0xFFE0003F#32
  | .mulS _ _ _ => 0xFFE0003F#32
  | .divS _ _ _ => 0xFFE0003F#32
  | .sqrtS _ _ => 0xFFE0003F#32
  | .absS _ _ => 0xFFE0003F#32
  | .movS _ _ => 0xFFE0003F#32
  | .negS _ _ => 0xFFE0003F#32
  | .roundLS _ _ => 0xFFE0003F#32
  | .truncLS _ _ => 0xFFE0003F#32
  | .ceilLS _ _ => 0xFFE0003F#32
  | .floorLS _ _ => 0xFFE0003F#32
  | .roundWS _ _ => 0xFFE0003F#32
  | .truncWS _ _ => 0xFFE0003F#32
  | .ceilWS _ _ => 0xFFE0003F#32
  | .floorWS _ _ => 0xFFE0003F#32
  | .cvtWS _ _ => 0xFFE0003F#32
  | .cvtLS _ _ => 0xFFE0003F#32
  | .addD _ _ _ => 0xFFE0003F#32
  | .subD _ _ _ => 0xFFE0003F#32
  | .mulD _ _ _ => 0xFFE0003F#32
  | .divD _ _ _ => 0xFFE0003F#32
  | .sqrtD _ _ => 0xFFE0003F#32
  | .absD _ _ => 0xFFE0003F#32
  | .movD _ _ => 0xFFE0003F#32
  | .negD _ _ => 0xFFE0003F#32
  | .roundLD _ _ => 0xFFE0003F#32
  | .truncLD _ _ => 0xFFE0003F#32
  | .ceilLD _ _ => 0xFFE0003F#32
  | .floorLD _ _ => 0xFFE0003F#32
  | .roundWD _ _ => 0xFFE0003F#32
  | .truncWD _ _ => 0xFFE0003F#32
  | .ceilWD _ _ => 0xFFE0003F#32
  | .floorWD _ _ => 0xFFE0003F#32
  | .cvtWD _ _ => 0xFFE0003F#32
  | .cvtLD _ _ => 0xFFE0003F#32
  | .cvtSD _ _ => 0xFFE0003F#32
  | .cvtSW _ _ => 0xFFE0003F#32
  | .cvtSL _ _ => 0xFFE0003F#32
  | .cvtDS _ _ => 0xFFE0003F#32
  | .cvtDW _ _ => 0xFFE0003F#32
  | .cvtDL _ _ => 0xFFE0003F#32
  | .cFS _ _ => 0xFFE0003F#32
  | .cUnS _ _ => 0xFFE0003F#32
  | .cEqS _ _ => 0xFFE0003F#32
  | .cUeqS _ _ => 0xFFE0003F#32
  | .cOltS _ _ => 0xFFE0003F#32
  | .cUltS _ _ => 0xFFE0003F#32
  | .cOleS _ _ => 0xFFE0003F#32
  | .cUleS _ _ => 0xFFE0003F#32
  | .cSfS _ _ => 0xFFE0003F#32
  | .cNgleS _ _ => 0xFFE0003F#32
  | .cSeqS _ _ => 0xFFE0003F#32
  | .cNglS _ _ => 0xFFE0003F#32
  | .cLtS _ _ => 0xFFE0003F#32
  | .cNgeS _ _ => 0xFFE0003F#32
  | .cLeS _ _ => 0xFFE0003F#32
  | .cNgtS _ _ => 0xFFE0003F#32
  | .cFD _ _ => 0xFFE0003F#32
  | .cUnD _ _ => 0xFFE0003F#32
  | .cEqD _ _ => 0xFFE0003F#32
  | .cUeqD _ _ => 0xFFE0003F#32
  | .cOltD _ _ => 0xFFE0003F#32
  | .cUltD _ _ => 0xFFE0003F#32
  | .cOleD _ _ => 0xFFE0003F#32
  | .cUleD _ _ => 0xFFE0003F#32
  | .cSfD _ _ => 0xFFE0003F#32
  | .cNgleD _ _ => 0xFFE0003F#32
  | .cSeqD _ _ => 0xFFE0003F#32
  | .cNglD _ _ => 0xFFE0003F#32
  | .cLtD _ _ => 0xFFE0003F#32
  | .cNgeD _ _ => 0xFFE0003F#32
  | .cLeD _ _ => 0xFFE0003F#32
  | .cNgtD _ _ => 0xFFE0003F#32

/-- The `match` of the instruction's row in opcode_table.json: what the fixed bits are. -/
def Instr.pattern (i : Instr) : Word :=
  match i with
  | .add _ _ _ => 0x00000020#32
  | .addu _ _ _ => 0x00000021#32
  | .sub _ _ _ => 0x00000022#32
  | .subu _ _ _ => 0x00000023#32
  | .and _ _ _ => 0x00000024#32
  | .or _ _ _ => 0x00000025#32
  | .xor _ _ _ => 0x00000026#32
  | .nor _ _ _ => 0x00000027#32
  | .slt _ _ _ => 0x0000002A#32
  | .sltu _ _ _ => 0x0000002B#32
  | .sll _ _ _ => 0x00000000#32
  | .srl _ _ _ => 0x00000002#32
  | .sra _ _ _ => 0x00000003#32
  | .sllv _ _ _ => 0x00000004#32
  | .srlv _ _ _ => 0x00000006#32
  | .srav _ _ _ => 0x00000007#32
  | .addi _ _ _ => 0x20000000#32
  | .addiu _ _ _ => 0x24000000#32
  | .slti _ _ _ => 0x28000000#32
  | .sltiu _ _ _ => 0x2C000000#32
  | .andi _ _ _ => 0x30000000#32
  | .ori _ _ _ => 0x34000000#32
  | .xori _ _ _ => 0x38000000#32
  | .lui _ _ => 0x3C000000#32
  | .mult _ _ => 0x00000018#32
  | .multu _ _ => 0x00000019#32
  | .div _ _ => 0x0000001A#32
  | .divu _ _ => 0x0000001B#32
  | .mfhi _ => 0x00000010#32
  | .mthi _ => 0x00000011#32
  | .mflo _ => 0x00000012#32
  | .mtlo _ => 0x00000013#32
  | .j _ => 0x08000000#32
  | .jal _ => 0x0C000000#32
  | .jr _ => 0x00000008#32
  | .jalr _ _ => 0x00000009#32
  | .beq _ _ _ => 0x10000000#32
  | .bne _ _ _ => 0x14000000#32
  | .blez _ _ => 0x18000000#32
  | .bgtz _ _ => 0x1C000000#32
  | .beql _ _ _ => 0x50000000#32
  | .bnel _ _ _ => 0x54000000#32
  | .blezl _ _ => 0x58000000#32
  | .bgtzl _ _ => 0x5C000000#32
  | .bltz _ _ => 0x04000000#32
  | .bgez _ _ => 0x04010000#32
  | .bltzal _ _ => 0x04100000#32
  | .bgezal _ _ => 0x04110000#32
  | .bltzl _ _ => 0x04020000#32
  | .bgezl _ _ => 0x04030000#32
  | .bltzall _ _ => 0x04120000#32
  | .bgezall _ _ => 0x04130000#32
  | .lb _ _ _ => 0x80000000#32
  | .lbu _ _ _ => 0x90000000#32
  | .lh _ _ _ => 0x84000000#32
  | .lhu _ _ _ => 0x94000000#32
  | .lw _ _ _ => 0x8C000000#32
  | .sb _ _ _ => 0xA0000000#32
  | .sh _ _ _ => 0xA4000000#32
  | .sw _ _ _ => 0xAC000000#32
  | .swl _ _ _ => 0xA8000000#32
  | .swr _ _ _ => 0xB8000000#32
  | .lwl _ _ _ => 0x88000000#32
  | .lwr _ _ _ => 0x98000000#32
  | .ll _ _ _ => 0xC0000000#32
  | .sc _ _ _ => 0xE0000000#32
  | .sync _ => 0x0000000F#32
  | .cache _ _ _ => 0xBC000000#32
  | .syscall _ => 0x0000000C#32
  | .brk _ => 0x0000000D#32
  | .tge _ _ _ => 0x00000030#32
  | .tgeu _ _ _ => 0x00000031#32
  | .tlt _ _ _ => 0x00000032#32
  | .tltu _ _ _ => 0x00000033#32
  | .teq _ _ _ => 0x00000034#32
  | .tne _ _ _ => 0x00000036#32
  | .mfc0 _ _ => 0x40000000#32
  | .mtc0 _ _ => 0x40800000#32
  | .eret => 0x42000018#32
  | .tgei _ _ => 0x04080000#32
  | .tgeiu _ _ => 0x04090000#32
  | .tlti _ _ => 0x040A0000#32
  | .tltiu _ _ => 0x040B0000#32
  | .teqi _ _ => 0x040C0000#32
  | .tnei _ _ => 0x040E0000#32
  | .tlbr => 0x42000001#32
  | .tlbwi => 0x42000002#32
  | .tlbwr => 0x42000006#32
  | .tlbp => 0x42000008#32
  | .daddi _ _ _ => 0x60000000#32
  | .daddiu _ _ _ => 0x64000000#32
  | .ldl _ _ _ => 0x68000000#32
  | .ldr _ _ _ => 0x6C000000#32
  | .lwu _ _ _ => 0x9C000000#32
  | .sdl _ _ _ => 0xB0000000#32
  | .sdr _ _ _ => 0xB4000000#32
  | .lld _ _ _ => 0xD0000000#32
  | .ld _ _ _ => 0xDC000000#32
  | .scd _ _ _ => 0xF0000000#32
  | .sd _ _ _ => 0xFC000000#32
  | .dsllv _ _ _ => 0x00000014#32
  | .dsrlv _ _ _ => 0x00000016#32
  | .dsrav _ _ _ => 0x00000017#32
  | .dadd _ _ _ => 0x0000002C#32
  | .daddu _ _ _ => 0x0000002D#32
  | .dsub _ _ _ => 0x0000002E#32
  | .dsubu _ _ _ => 0x0000002F#32
  | .dmult _ _ => 0x0000001C#32
  | .dmultu _ _ => 0x0000001D#32
  | .ddiv _ _ => 0x0000001E#32
  | .ddivu _ _ => 0x0000001F#32
  | .dsll _ _ _ => 0x00000038#32
  | .dsrl _ _ _ => 0x0000003A#32
  | .dsra _ _ _ => 0x0000003B#32
  | .dsll32 _ _ _ => 0x0000003C#32
  | .dsrl32 _ _ _ => 0x0000003E#32
  | .dsra32 _ _ _ => 0x0000003F#32
  | .dmfc0 _ _ => 0x40200000#32
  | .dmtc0 _ _ => 0x40A00000#32
  | .dmfc1 _ _ => 0x44200000#32
  | .dmtc1 _ _ => 0x44A00000#32
  | .cop2 _ => 0x48000000#32
  | .lwc2 _ _ _ => 0xC8000000#32
  | .ldc2 _ _ _ => 0xD8000000#32
  | .swc2 _ _ _ => 0xE8000000#32
  | .sdc2 _ _ _ => 0xF8000000#32
  | .mfc1 _ _ => 0x44000000#32
  | .mtc1 _ _ => 0x44800000#32
  | .cfc1 _ _ => 0x44400000#32
  | .ctc1 _ _ => 0x44C00000#32
  | .lwc1 _ _ _ => 0xC4000000#32
  | .swc1 _ _ _ => 0xE4000000#32
  | .ldc1 _ _ _ => 0xD4000000#32
  | .sdc1 _ _ _ => 0xF4000000#32
  | .bc1f _ => 0x45000000#32
  | .bc1t _ => 0x45010000#32
  | .bc1fl _ => 0x45020000#32
  | .bc1tl _ => 0x45030000#32
  | .addS _ _ _ => 0x46000000#32
  | .subS _ _ _ => 0x46000001#32
  | .mulS _ _ _ => 0x46000002#32
  | .divS _ _ _ => 0x46000003#32
  | .sqrtS _ _ => 0x46000004#32
  | .absS _ _ => 0x46000005#32
  | .movS _ _ => 0x46000006#32
  | .negS _ _ => 0x46000007#32
  | .roundLS _ _ => 0x46000008#32
  | .truncLS _ _ => 0x46000009#32
  | .ceilLS _ _ => 0x4600000A#32
  | .floorLS _ _ => 0x4600000B#32
  | .roundWS _ _ => 0x4600000C#32
  | .truncWS _ _ => 0x4600000D#32
  | .ceilWS _ _ => 0x4600000E#32
  | .floorWS _ _ => 0x4600000F#32
  | .cvtWS _ _ => 0x46000024#32
  | .cvtLS _ _ => 0x46000025#32
  | .addD _ _ _ => 0x46200000#32
  | .subD _ _ _ => 0x46200001#32
  | .mulD _ _ _ => 0x46200002#32
  | .divD _ _ _ => 0x46200003#32
  | .sqrtD _ _ => 0x46200004#32
  | .absD _ _ => 0x46200005#32
  | .movD _ _ => 0x46200006#32
  | .negD _ _ => 0x46200007#32
  | .roundLD _ _ => 0x46200008#32
  | .truncLD _ _ => 0x46200009#32
  | .ceilLD _ _ => 0x4620000A#32
  | .floorLD _ _ => 0x4620000B#32
  | .roundWD _ _ => 0x4620000C#32
  | .truncWD _ _ => 0x4620000D#32
  | .ceilWD _ _ => 0x4620000E#32
  | .floorWD _ _ => 0x4620000F#32
  | .cvtWD _ _ => 0x46200024#32
  | .cvtLD _ _ => 0x46200025#32
  | .cvtSD _ _ => 0x46200020#32
  | .cvtSW _ _ => 0x46800020#32
  | .cvtSL _ _ => 0x46A00020#32
  | .cvtDS _ _ => 0x46000021#32
  | .cvtDW _ _ => 0x46800021#32
  | .cvtDL _ _ => 0x46A00021#32
  | .cFS _ _ => 0x46000030#32
  | .cUnS _ _ => 0x46000031#32
  | .cEqS _ _ => 0x46000032#32
  | .cUeqS _ _ => 0x46000033#32
  | .cOltS _ _ => 0x46000034#32
  | .cUltS _ _ => 0x46000035#32
  | .cOleS _ _ => 0x46000036#32
  | .cUleS _ _ => 0x46000037#32
  | .cSfS _ _ => 0x46000038#32
  | .cNgleS _ _ => 0x46000039#32
  | .cSeqS _ _ => 0x4600003A#32
  | .cNglS _ _ => 0x4600003B#32
  | .cLtS _ _ => 0x4600003C#32
  | .cNgeS _ _ => 0x4600003D#32
  | .cLeS _ _ => 0x4600003E#32
  | .cNgtS _ _ => 0x4600003F#32
  | .cFD _ _ => 0x46200030#32
  | .cUnD _ _ => 0x46200031#32
  | .cEqD _ _ => 0x46200032#32
  | .cUeqD _ _ => 0x46200033#32
  | .cOltD _ _ => 0x46200034#32
  | .cUltD _ _ => 0x46200035#32
  | .cOleD _ _ => 0x46200036#32
  | .cUleD _ _ => 0x46200037#32
  | .cSfD _ _ => 0x46200038#32
  | .cNgleD _ _ => 0x46200039#32
  | .cSeqD _ _ => 0x4620003A#32
  | .cNglD _ _ => 0x4620003B#32
  | .cLtD _ _ => 0x4620003C#32
  | .cNgeD _ _ => 0x4620003D#32
  | .cLeD _ _ => 0x4620003E#32
  | .cNgtD _ _ => 0x4620003F#32

end Sys2Proof
end

