-- ==== Sys2Proof/Machine/Float.lean ====
section
/-! DEFINITION. The numerics of the FPU (47_fpu_arith.md): IEEE 754 binary32 and binary64 with the choices of
decision D29. A finite value is held exactly as sign, magnitude and a power of two; every operation computes
exactly, or to more digits than any rounding needs with a note whether more follow, and rounds once (R360). -/

namespace Sys2Proof.Machine

/-! ### Formats and values -/

/-- The two floating-point formats. -/
inductive Format where
  | single | double
  deriving DecidableEq, Repr

/-- Width of the fraction field. -/
def Format.fracBits : Format → Nat
  | .single => 23
  | .double => 52

/-- Width of the exponent field. -/
def Format.expBits : Format → Nat
  | .single => 8
  | .double => 11

/-- Width of the whole encoding. -/
def Format.width : Format → Nat
  | .single => 32
  | .double => 64

/-- The exponent of the largest finite values, and the exponent bias. -/
def Format.emax : Format → Int
  | .single => 127
  | .double => 1023

/-- The exponent of the smallest normal number: -126 or -1022 (R364). -/
def Format.emin (f : Format) : Int := 1 - f.emax

/-- The rounding modes of `FCSR.RM` (R362). -/
inductive Rounding where
  /-- RN, to nearest, ties to even. -/
  | nearest
  /-- RZ, toward zero. -/
  | zero
  /-- RP, toward +infinity. -/
  | up
  /-- RM, toward -infinity. -/
  | down
  deriving DecidableEq, Repr

/-- `FCSR.RM` as a rounding mode (R33, R362). -/
def Rounding.ofRM (rm : BitVec 2) : Rounding :=
  match rm with
  | 0#2 => .nearest
  | 1#2 => .zero
  | 2#2 => .up
  | _ => .down

/-- The value of a floating-point encoding. A finite value is `mant * 2 ^ exp`, negated if `neg`. -/
inductive FpValue where
  | nan (signalling : Bool)
  | inf (neg : Bool)
  | finite (neg : Bool) (mant : Nat) (exp : Int)
  deriving DecidableEq, Repr

/-- The value of a bit pattern. The top fraction bit of a NaN is 1 for a signalling one, the MIPS legacy
encoding (R363). -/
def unpack (f : Format) (bits : Nat) : FpValue :=
  let frac := bits % 2 ^ f.fracBits
  let bexp := bits / 2 ^ f.fracBits % 2 ^ f.expBits
  let neg := bits / 2 ^ (f.fracBits + f.expBits) % 2 == 1
  if bexp = 2 ^ f.expBits - 1 then
    if frac = 0 then .inf neg else .nan (frac / 2 ^ (f.fracBits - 1) == 1)
  else if bexp = 0 then .finite neg frac (f.emin - f.fracBits)
  else .finite neg (2 ^ f.fracBits + frac) (f.emin - f.fracBits + (bexp - 1))

/-- The sign bit. -/
def signBits (f : Format) (neg : Bool) : Nat := if neg then 2 ^ (f.fracBits + f.expBits) else 0

/-- A signed infinity (R367). -/
def infBits (f : Format) (neg : Bool) : Nat := signBits f neg + (2 ^ f.expBits - 1) * 2 ^ f.fracBits

/-- The largest finite magnitude, signed (R367). -/
def maxBits (f : Format) (neg : Bool) : Nat := infBits f neg - 1

/-- The default NaN: 0x7FBF_FFFF or 0x7FF7_FFFF_FFFF_FFFF (R363). -/
def defaultNaN (f : Format) : Nat := infBits f false + (2 ^ (f.fracBits - 1) - 1)

/-! ### Signalled exceptions -/

/-- The exceptions an operation signals, the set `cause` of R365. -/
structure FpCause where
  /-- Unimplemented operation. -/
  e : Bool := false
  /-- Invalid operation. -/
  v : Bool := false
  /-- Division by zero. -/
  z : Bool := false
  /-- Overflow. -/
  o : Bool := false
  /-- Underflow. -/
  u : Bool := false
  /-- Inexact. -/
  i : Bool := false
  deriving DecidableEq, Repr

/-- Nothing signalled. -/
def FpCause.none : FpCause := {}
/-- V and nothing else (R365). -/
def FpCause.invalid : FpCause := { v := true }
/-- V if the condition holds, else nothing. -/
def FpCause.invalidIf (b : Bool) : FpCause := { v := b }

/-- The result of an operation: a bit pattern and what it signals. -/
structure FpResult where
  bits  : Nat
  cause : FpCause
  deriving DecidableEq, Repr

/-! ### Rounding (R360, R362, R364, R367) -/

/-- The magnitude `mant / 2 ^ shift`, plus a tail in (0, 1) of its last place if `tail`, rounded to an integer,
and whether that changed it. -/
def roundShift (rm : Rounding) (neg : Bool) (mant shift : Nat) (tail : Bool) : Nat × Bool :=
  let q := mant / 2 ^ shift
  let r := mant % 2 ^ shift
  let inexact := r ≠ 0 || tail
  let up :=
    match rm with
    | .nearest => 2 * r > 2 ^ shift || (2 * r = 2 ^ shift && (tail || q % 2 == 1))
    | .zero => false
    | .up => inexact && !neg
    | .down => inexact && neg
  (if up then q + 1 else q, inexact)

/-- The magnitude `mant * 2 ^ exp` (plus the tail) rounded to a multiple of `2 ^ quantum`: how many of them, and
whether that changed it. A value with a tail always has `exp < quantum`. -/
def roundAt (rm : Rounding) (neg : Bool) (mant : Nat) (exp : Int) (tail : Bool) (quantum : Int) : Nat × Bool :=
  if quantum ≤ exp then (mant * 2 ^ (exp - quantum).toNat, tail)
  else roundShift rm neg mant (quantum - exp).toNat tail

/-- What an overflow delivers (R367). -/
def overflowBits (f : Format) (rm : Rounding) (neg : Bool) : Nat :=
  match rm with
  | .nearest => infBits f neg
  | .zero => maxBits f neg
  | .up => if neg then maxBits f neg else infBits f neg
  | .down => if neg then infBits f neg else maxBits f neg

/-- The nonzero magnitude `mant * 2 ^ exp` (plus the tail) rounded to the format, with the signalled O, U and I.
Tininess is detected after rounding with an unbounded exponent (R364). -/
def roundTo (f : Format) (rm : Rounding) (neg : Bool) (mant : Nat) (exp : Int) (tail : Bool) : FpResult :=
  let unbounded := exp + Nat.log2 mant - f.fracBits
  let least := f.emin - f.fracBits
  let quantum := max unbounded least
  let (n, inexact) := roundAt rm neg mant exp tail quantum
  let (nu, _) := roundAt rm neg mant exp tail unbounded
  if n ≠ 0 && f.emax < quantum + Nat.log2 n then
    { bits := overflowBits f rm neg, cause := { o := true, i := true } }
  else
    { bits := signBits f neg + ((quantum - least).toNat * 2 ^ f.fracBits + n)
      cause := { u := inexact && decide (unbounded + Nat.log2 nu < f.emin), i := inexact } }

/-- A zero of the given sign, exact. -/
def zeroResult (f : Format) (neg : Bool) : FpResult := { bits := signBits f neg, cause := .none }

/-- An infinity of the given sign, exact. -/
def infResult (f : Format) (neg : Bool) : FpResult := { bits := infBits f neg, cause := .none }

/-- The default NaN with V (R363, R365). -/
def invalidResult (f : Format) : FpResult := { bits := defaultNaN f, cause := .invalid }

/-- The default NaN of an operation with a NaN operand: V only if one is signalling (R363). -/
def nanResult (f : Format) (signalling : Bool) : FpResult :=
  { bits := defaultNaN f, cause := .invalidIf signalling }

/-- A finite value, exact, rounded to the format. -/
def roundFinite (f : Format) (rm : Rounding) (neg : Bool) (mant : Nat) (exp : Int) : FpResult :=
  if mant = 0 then zeroResult f neg else roundTo f rm neg mant exp false

/-! ### Arithmetic (47_fpu_arith.md section 2) -/

/-- `mant * 2 ^ exp`, signed, counted in units of `2 ^ unit`, for `unit ≤ exp`. -/
def scaled (neg : Bool) (mant : Nat) (exp unit : Int) : Int :=
  let m : Int := mant * 2 ^ (exp - unit).toNat
  if neg then -m else m

/-- A value with its sign inverted. -/
def FpValue.negate : FpValue → FpValue
  | .nan q => .nan q
  | .inf neg => .inf (!neg)
  | .finite neg mant exp => .finite (!neg) mant exp

/-- ADD.fmt (R368). -/
def fpAdd (f : Format) (rm : Rounding) (a b : FpValue) : FpResult :=
  match a, b with
  | .nan p, .nan q => nanResult f (p || q)
  | .nan p, _ => nanResult f p
  | _, .nan q => nanResult f q
  | .inf na, .inf nb => if na = nb then infResult f na else invalidResult f
  | .inf na, .finite _ _ _ => infResult f na
  | .finite _ _ _, .inf nb => infResult f nb
  | .finite na ma ea, .finite nb mb eb =>
    let unit := min ea eb
    let sum := scaled na ma ea unit + scaled nb mb eb unit
    if sum = 0 then zeroResult f (if na = nb then na else rm = .down)
    else roundTo f rm (sum < 0) sum.natAbs unit false

/-- SUB.fmt (R369): addition of the negated operand. -/
def fpSub (f : Format) (rm : Rounding) (a b : FpValue) : FpResult := fpAdd f rm a b.negate

/-- MUL.fmt (R370). -/
def fpMul (f : Format) (rm : Rounding) (a b : FpValue) : FpResult :=
  match a, b with
  | .nan p, .nan q => nanResult f (p || q)
  | .nan p, _ => nanResult f p
  | _, .nan q => nanResult f q
  | .inf na, .inf nb => infResult f (na ^^ nb)
  | .inf na, .finite nb mb _ => if mb = 0 then invalidResult f else infResult f (na ^^ nb)
  | .finite na ma _, .inf nb => if ma = 0 then invalidResult f else infResult f (na ^^ nb)
  | .finite na ma ea, .finite nb mb eb => roundFinite f rm (na ^^ nb) (ma * mb) (ea + eb)

/-- How many extra bits a quotient or a root is computed to: more than the format's precision, so that the
tail decides no more than "more follows". -/
def guardBits (f : Format) : Nat := f.fracBits + 3

/-- The quotient of two nonzero magnitudes, rounded once. -/
def roundQuotient (f : Format) (rm : Rounding) (neg : Bool) (ma : Nat) (ea : Int) (mb : Nat) (eb : Int) :
    FpResult :=
  let k := guardBits f + Nat.log2 mb
  let n := ma * 2 ^ k
  roundTo f rm neg (n / mb) (ea - eb - k) (n % mb ≠ 0)

/-- DIV.fmt (R371). -/
def fpDiv (f : Format) (rm : Rounding) (a b : FpValue) : FpResult :=
  match a, b with
  | .nan p, .nan q => nanResult f (p || q)
  | .nan p, _ => nanResult f p
  | _, .nan q => nanResult f q
  | .inf _, .inf _ => invalidResult f
  | .inf na, .finite nb _ _ => infResult f (na ^^ nb)
  | .finite na _ _, .inf nb => zeroResult f (na ^^ nb)
  | .finite na ma ea, .finite nb mb eb =>
    if mb = 0 then
      if ma = 0 then invalidResult f
      else { bits := infBits f (na ^^ nb), cause := { z := true } }
    else if ma = 0 then zeroResult f (na ^^ nb)
    else roundQuotient f rm (na ^^ nb) ma ea mb eb

/-- The largest `r` below `2 ^ bits` above `acc`, built bit by bit from the top, whose square is at most `n`. -/
def isqrtFrom (n : Nat) : Nat → Nat → Nat
  | 0, acc => acc
  | bit + 1, acc =>
    let candidate := acc + 2 ^ bit
    isqrtFrom n bit (if candidate * candidate ≤ n then candidate else acc)

/-- The integer square root, rounded down. -/
def isqrt (n : Nat) : Nat := isqrtFrom n (Nat.log2 n / 2 + 1) 0

/-- The root of a nonzero magnitude, rounded once. -/
def roundRoot (f : Format) (rm : Rounding) (mant : Nat) (exp : Int) : FpResult :=
  let k := 2 * guardBits f + (exp % 2).toNat
  let n := mant * 2 ^ k
  let r := isqrt n
  roundTo f rm false r ((exp - k) / 2) (r * r ≠ n)

/-- SQRT.fmt (R372). -/
def fpSqrt (f : Format) (rm : Rounding) (a : FpValue) : FpResult :=
  match a with
  | .nan q => nanResult f q
  | .inf neg => if neg then invalidResult f else infResult f false
  | .finite neg mant exp =>
    if mant = 0 then zeroResult f neg
    else if neg then invalidResult f
    else roundRoot f rm mant exp

/-- The bit pattern without its sign bit. -/
def clearSign (f : Format) (bits : Nat) : Nat := bits % 2 ^ (f.fracBits + f.expBits)

/-- The bit pattern with its sign bit inverted. -/
def flipSign (f : Format) (bits : Nat) : Nat :=
  clearSign f bits + signBits f (bits / 2 ^ (f.fracBits + f.expBits) % 2 == 0)

/-- ABS.fmt (R373), on a bit pattern. -/
def fpAbs (f : Format) (bits : Nat) : FpResult :=
  match unpack f bits with
  | .nan q => nanResult f q
  | .inf _ => { bits := clearSign f bits, cause := .none }
  | .finite _ _ _ => { bits := clearSign f bits, cause := .none }

/-- NEG.fmt (R375), on a bit pattern. -/
def fpNeg (f : Format) (bits : Nat) : FpResult :=
  match unpack f bits with
  | .nan q => nanResult f q
  | .inf _ => { bits := flipSign f bits, cause := .none }
  | .finite _ _ _ => { bits := flipSign f bits, cause := .none }

/-! ### Conversions (47_fpu_arith.md sections 3 and 5) -/

/-- The invalid result of a conversion to an `n`-bit integer (R389). -/
def invalidInt (n : Nat) : FpResult := { bits := 2 ^ (n - 1) - 1, cause := .invalid }

/-- `ToInt(a, mode, n)` (section 3). -/
def toInt (rm : Rounding) (n : Nat) (a : FpValue) : FpResult :=
  match a with
  | .nan _ => invalidInt n
  | .inf _ => invalidInt n
  | .finite neg mant exp =>
    let (q, inexact) := roundAt rm neg mant exp false 0
    let r : Int := if neg then -q else q
    if r < -2 ^ (n - 1) ∨ r > 2 ^ (n - 1) - 1 then invalidInt n
    else { bits := (r % 2 ^ n).toNat, cause := { i := inexact } }

/-- A floating-point value in another format (R385, R386). -/
def fpConvert (f : Format) (rm : Rounding) (a : FpValue) : FpResult :=
  match a with
  | .nan q => nanResult f q
  | .inf neg => infResult f neg
  | .finite neg mant exp => roundFinite f rm neg mant exp

/-- An integer as a floating-point value (R385, R386). -/
def fpOfInt (f : Format) (rm : Rounding) (v : Int) : FpResult :=
  roundFinite f rm (v < 0) v.natAbs 0

/-! ### Comparison (R384) -/

/-- Whether the value is a NaN. -/
def FpValue.isNaN : FpValue → Bool
  | .nan _ => true
  | .inf _ => false
  | .finite _ _ _ => false

/-- Whether the value is a signalling NaN. -/
def FpValue.isSNaN : FpValue → Bool
  | .nan q => q
  | .inf _ => false
  | .finite _ _ _ => false

/-- `a < b` for values that are no NaN; -inf < finite < +inf (R384). -/
def fpLess (a b : FpValue) : Bool :=
  match a, b with
  | .nan _, _ => false
  | _, .nan _ => false
  | .inf na, .inf nb => na && !nb
  | .inf na, .finite _ _ _ => na
  | .finite _ _ _, .inf nb => !nb
  | .finite na ma ea, .finite nb mb eb =>
    scaled na ma ea (min ea eb) < scaled nb mb eb (min ea eb)

/-- `a = b` for values that are no NaN; +0 = -0 (R384). -/
def fpEqual (a b : FpValue) : Bool :=
  match a, b with
  | .nan _, _ => false
  | _, .nan _ => false
  | .inf na, .inf nb => na == nb
  | .inf _, .finite _ _ _ => false
  | .finite _ _ _, .inf _ => false
  | .finite na ma ea, .finite nb mb eb =>
    scaled na ma ea (min ea eb) = scaled nb mb eb (min ea eb)

/-- C.cond.fmt (R384): the condition and what is signalled. -/
def fpCompare (cond : BitVec 4) (a b : FpValue) : Bool × FpCause :=
  let unordered := a.isNaN || b.isNaN
  let c := (fpLess a b && cond.getLsbD 2) || (fpEqual a b && cond.getLsbD 1) || (unordered && cond.getLsbD 0)
  (c, .invalidIf (unordered && (a.isSNaN || b.isSNaN || cond.getLsbD 3)))

end Sys2Proof.Machine
end

