-- ==== Sys2Proof/Machine/Fields.lean ====
section
/-! DEFINITION. Bit fields of a 32-bit register, and the fields of Status, Cause and FCSR that something reads
or writes (10_state.md R28, R29, R33). -/

namespace Sys2Proof.Machine

/-- `v[i]` (00_scope.md R9). -/
def bitAt (v : Word) (i : Nat) : Bool := v.getLsbD i

/-- `v` with `v[i] <- b`. -/
def putBit (v : Word) (i : Nat) (b : Bool) : Word :=
  if b then v ||| (1#32 <<< i) else v &&& ~~~(1#32 <<< i)

/-- `v[lo+n-1 : lo]` (00_scope.md R9). -/
def fieldAt (v : Word) (lo n : Nat) : BitVec n := v.extractLsb' lo n

/-- `v` with `v[lo+n-1 : lo] <- f`. -/
def putField {n : Nat} (v : Word) (lo : Nat) (f : BitVec n) : Word :=
  (v &&& ~~~((BitVec.allOnes n).setWidth 32 <<< lo)) ||| (f.setWidth 32 <<< lo)

/-! ### Status, `cp0[12]` (R28) -/

/-- `Status.IE`. -/
def statusIE (v : Word) : Bool := bitAt v 0
/-- `Status.EXL`. -/
def statusEXL (v : Word) : Bool := bitAt v 1
/-- `Status.ERL`. -/
def statusERL (v : Word) : Bool := bitAt v 2
/-- `Status.IM`, bits 15:8. -/
def statusIM (v : Word) : BitVec 8 := fieldAt v 8 8
/-- `Status.CU1`. -/
def statusCU1 (v : Word) : Bool := bitAt v 29
/-- `Status.EXL <- b`. -/
def putEXL (v : Word) (b : Bool) : Word := putBit v 1 b
/-- `Status.ERL <- b`. -/
def putERL (v : Word) (b : Bool) : Word := putBit v 2 b

/-! ### Cause, `cp0[13]` (R29) -/

/-- `Cause.ExcCode`, bits 6:2. -/
def causeExcCode (v : Word) : BitVec 5 := fieldAt v 2 5
/-- `Cause.IP`, bits 15:8. -/
def causeIP (v : Word) : BitVec 8 := fieldAt v 8 8
/-- `Cause.CE`, bits 29:28. -/
def causeCE (v : Word) : BitVec 2 := fieldAt v 28 2
/-- `Cause.BD`. -/
def causeBD (v : Word) : Bool := bitAt v 31
/-- `Cause.ExcCode <- code`. -/
def putExcCode (v : Word) (code : BitVec 5) : Word := putField v 2 code
/-- `Cause.CE <- ce`. -/
def putCE (v : Word) (ce : BitVec 2) : Word := putField v 28 ce
/-- `Cause.BD <- b`. -/
def putBD (v : Word) (b : Bool) : Word := putBit v 31 b

/-! ### FCSR, `fcr[31]` (R33) -/

/-- `FCSR.RM`, bits 1:0. -/
def fcsrRM (v : Word) : BitVec 2 := fieldAt v 0 2
/-- `FCSR.Flags`, bits 6:2: V, Z, O, U, I from the top. -/
def fcsrFlags (v : Word) : BitVec 5 := fieldAt v 2 5
/-- `FCSR.Enables`, bits 11:7: V, Z, O, U, I from the top. -/
def fcsrEnables (v : Word) : BitVec 5 := fieldAt v 7 5
/-- `FCSR.Cause`, bits 17:12: E, V, Z, O, U, I from the top. -/
def fcsrCause (v : Word) : BitVec 6 := fieldAt v 12 6
/-- `FCSR.C`. -/
def fcsrC (v : Word) : Bool := bitAt v 23
/-- `FCSR.Flags <- f`. -/
def putFcsrFlags (v : Word) (f : BitVec 5) : Word := putField v 2 f
/-- `FCSR.Cause <- c`. -/
def putFcsrCause (v : Word) (c : BitVec 6) : Word := putField v 12 c
/-- `FCSR.C <- b`. -/
def putFcsrC (v : Word) (b : Bool) : Word := putBit v 23 b

end Sys2Proof.Machine
end

