-- ==== Sys2Proof/Config.lean ====
section
/-! DEFINITION. The parameters of the hardware (00_scope.md R7): the values the spec takes, and the OPEN
ones as constants without a body. -/

namespace Sys2Proof.Config

/-- `DRAM_SIZE` in bytes. R7, decision D14 (log entry 12). -/
def dramSize : Nat := 0x400000
/-- `SRAM_SIZE` in bytes. R7, decision D14 (log entry 12). -/
def sramSize : Nat := 0x8000
/-- `ROM_MAX_SIZE` in bytes. R7, decision D14 (log entry 12). -/
def romMaxSize : Nat := 0x4000000
/-- `DRAM_PBASE`. R7. -/
def dramPbase : Nat := 0x00000000
/-- `SRAM_VBASE`. R7. -/
def sramVbase : Nat := 0x04000000
/-- `SRAM_PBASE`. R7, decision D15. -/
def sramPbase : Nat := 0x04000000
/-- `ROM_VBASE`. R7. -/
def romVbase : Nat := 0x10000000
/-- `ROM_PBASE`. R7, decision D15. -/
def romPbase : Nat := 0x10000000
/-- `KSEG0_ALIAS`. R7. -/
def kseg0Alias : Nat := 0x80000000
/-- `KSEG1_ALIAS`. R7. -/
def kseg1Alias : Nat := 0xA0000000
/-- `MMIO_BASE`. R7, decision D13 (conflict C1). -/
def mmioBase : Nat := 0xC0000000
/-- `MMIO_SLOT_STRIDE` in bytes. R7. -/
def mmioSlotStride : Nat := 16
/-- `MMIO_SLOTS`. R7. -/
def mmioSlots : Nat := 8
/-- `UNMAPPED_BYTE`. R7. -/
def unmappedByte : Byte := 0xFF#8
/-- `MMIO_UNKNOWN_WORD`. R7. -/
def mmioUnknownWord : Word := 0xFFFFFFFF#32
/-- `BP_TABLE_SIZE` in entries: `DRAM_SIZE`. R7, decision D36. -/
def bpTableSize : Nat := dramSize
/-- `EXC_VECTOR`. R7, decision D8. -/
def excVector : Word := 0x80000180#32
/-- `RESET_PC`. R7. -/
def resetPc : Word := 0x00000000#32
/-- `CYCLES_PER_INSTRUCTION`. R7, decision D34. -/
def cyclesPerInstruction : DWord := 1#64

/-- `MMIO_INIT[0..7]`, OPEN (R7, decision D20): no value can be proved of it (log entry 7). -/
opaque mmioInit : Fin 8 → Word

/-- `RUN_CEILING`, OPEN: `none` or a natural number (R7, decision D35; log entry 8). -/
opaque runCeiling : Option Nat

end Sys2Proof.Config
end

