-- ==== Sys2Proof/Machine/State.lean ====
section
/-! DEFINITION. The state of the block as plain data: the Processor State (10_state.md R20 to R33), the
controller's state (R36 to R40), the Memory Subsystem's state (R42) and the host's pending moves; the reasons
a step can stop; and the state after reset (R41, R43). -/

namespace Sys2Proof.Machine

/-! ### Processor State -/

/-- The delay-slot state of 10_state.md R23. -/
inductive Delay where
  /-- The instruction at `pc` is not in a delay slot. -/
  | none
  /-- It is the delay slot of a taken branch or jump with this target. -/
  | taken (target : Word)
  /-- It is the delay slot of a branch that was neither taken nor annulled. -/
  | notTaken
  deriving DecidableEq, Repr

/-- The Processor State (R34). Registers are read and written only through the accessors of Ops.lean. -/
structure Cpu where
  /-- The cells of `x[0]` to `x[31]` (R20); the cell of `x[0]` is never read and stays 0. -/
  gpr   : Vector Word 32
  /-- HI (R21). -/
  hi    : Word
  /-- LO (R21). -/
  lo    : Word
  /-- The program counter (R22). -/
  pc    : Word
  /-- The delay-slot state (R23). -/
  delay : Delay
  /-- The load-linked bit (R24). -/
  llbit : Bool
  /-- The 32 CP0 registers (R26, R27). -/
  cp0   : Vector Word 32
  /-- The 32 FPU registers (R31). -/
  fpr   : Vector DWord 32
  /-- The 32 FPU control registers (R32); 31 is FCSR. -/
  fcr   : Vector Word 32
  deriving DecidableEq, Repr

/-! ### Controller state -/

/-- The run states of R36. -/
inductive RunState where
  | stopped | running | paused | stepping
  deriving DecidableEq, Repr

/-- The execution modes of R37. -/
inductive ExecMode where
  | interpreter | cachedInterpreter | jit
  deriving DecidableEq, Repr

/-- A pending host exception: a code 0 to 31 and a coprocessor number 0 to 3 (R40). -/
structure PendingExc where
  code : BitVec 5
  ce   : BitVec 2
  deriving DecidableEq, Repr

/-- The controller's own state (R36 to R40). -/
structure Ctl where
  /-- R36. -/
  runState     : RunState
  /-- R37. -/
  execMode     : ExecMode
  /-- R38. -/
  cycles       : DWord
  /-- R38. -/
  instructions : DWord
  /-- The addresses whose entry of the breakpoint table is true (R39), strictly rising. -/
  bp           : List Nat
  /-- R40. -/
  pendingExc   : Option PendingExc
  /-- R40. -/
  initialized  : Bool
  /-- R40. -/
  runCount     : Nat
  /-- The local variable `prev` of `step()` (40_controller.md R160): the run state `step()` returns to.
  The model's own field (log entry 4). -/
  stepReturn   : RunState
  deriving DecidableEq, Repr

/-! ### Memory Subsystem state -/

/-- A byte array: the cells that differ from `unlistedByte`, by rising index (log entry 11). -/
abbrev Memory := List Host.Cell

/-- One mapping `(vbase, pbase, size)` (R42). -/
structure Mapping where
  vbase : Word
  pbase : Word
  size  : Word
  deriving DecidableEq, Repr

/-- The Memory Subsystem (R42). -/
structure MemSys where
  /-- `dram`, by index from 0. -/
  dram      : Memory
  /-- `sram`, by index from 0. -/
  sram      : Memory
  /-- The ROM image. -/
  rom       : List Byte
  romLoaded : Bool
  /-- The ordered mapping list. -/
  maps      : List Mapping
  /-- The eight MMIO slots (20_memory.md R76). -/
  mmio      : Vector Word 8
  memReads  : DWord
  memWrites : DWord
  memReady  : Bool
  deriving DecidableEq, Repr

/-! ### The host's side (40_controller.md R176; log entries 2 and 5) -/

/-- The regions of 20_memory.md R62 and R96. -/
inductive Region where
  | mmio | dram | sram | rom | unmapped
  deriving DecidableEq, Repr

/-- The host operations of 40_controller.md R176, with their arguments. Register indexes, exception codes and
coprocessor numbers are integers, because the host may name one that does not exist (R171, R172). -/
inductive HostOp where
  /-- Memory Subsystem initialisation (10_state.md R43). -/
  | memInit
  /-- 70_reset_and_hazards.md R440. -/
  | init
  /-- 70_reset_and_hazards.md R442. -/
  | shutdown
  /-- R156. -/
  | run
  /-- R158. -/
  | pause
  /-- R159. -/
  | stop
  /-- R160. -/
  | step
  /-- R161. -/
  | getRunState
  /-- R161. -/
  | setRunState (r : RunState)
  /-- R163. -/
  | getExecMode
  /-- R163. -/
  | setExecMode (m : ExecMode)
  /-- 20_memory.md R89. -/
  | read8 (va : Word)
  /-- 20_memory.md R89. -/
  | read16 (va : Word)
  /-- 20_memory.md R89. -/
  | read32 (va : Word)
  /-- 20_memory.md R89. -/
  | read64 (va : Word)
  /-- 20_memory.md R89. -/
  | write8 (va : Word) (v : Byte)
  /-- 20_memory.md R89. -/
  | write16 (va : Word) (v : BitVec 16)
  /-- 20_memory.md R89. -/
  | write32 (va : Word) (v : Word)
  /-- 20_memory.md R89. -/
  | write64 (va : Word) (v : DWord)
  /-- 20_memory.md R65. -/
  | map (m : Mapping)
  /-- 20_memory.md R66. -/
  | unmap (vbase : Word)
  /-- 20_memory.md R80. -/
  | loadRom (image : List Byte)
  /-- 20_memory.md R82. -/
  | isRomLoaded
  /-- 20_memory.md R96. -/
  | isValidAddress (va : Word)
  /-- 20_memory.md R96. -/
  | getRegionForAddress (va : Word)
  /-- The Memory Subsystem's `reset_statistics` (20_memory.md R95). -/
  | memResetStatistics
  /-- R167. -/
  | setBreakpoint (a : Word)
  /-- R168. -/
  | clearBreakpoint (a : Word)
  /-- R168. -/
  | hasBreakpoint (a : Word)
  /-- R175. -/
  | getCycles
  /-- R175. -/
  | getInstructions
  /-- The controller's `reset_statistics` (R175). -/
  | resetStatistics
  /-- R171. -/
  | readCp0 (i : Int)
  /-- R171. -/
  | writeCp0 (i : Int) (v : Word)
  /-- R171. -/
  | readCp1 (i : Int)
  /-- R171. -/
  | writeCp1 (i : Int) (v : DWord)
  /-- R172. -/
  | raiseException (code ce : Int)
  /-- R173. -/
  | handleException
  deriving DecidableEq, Repr

/-- What a host operation returns (the column "returns" of R176). -/
inductive HostReply where
  /-- Nothing. -/
  | done
  /-- A boolean result: false is a rejected operation (00_scope.md R12). -/
  | flag (b : Bool)
  | byte (v : Byte)
  | half (v : BitVec 16)
  | word (v : Word)
  | dword (v : DWord)
  | runState (r : RunState)
  | execMode (m : ExecMode)
  | region (r : Region)
  deriving DecidableEq, Repr

/-- One pending move of the host (R157, R177). -/
inductive HostMove where
  /-- The host calls an operation. -/
  | call (op : HostOp)
  /-- The host lets the controller make one turn. -/
  | yield
  deriving DecidableEq, Repr

/-! ### The state -/

/-- The state of the block. -/
structure State where
  /-- The Processor State (R20 to R35). -/
  cpu    : Cpu
  /-- The controller's state (R36 to R40). -/
  ctl    : Ctl
  /-- The Memory Subsystem (R42). -/
  mem    : MemSys
  /-- The host's pending moves, first first. The model's own field (log entry 2). -/
  agenda : List HostMove
  /-- The call of `run()` that has not returned yet (R156, R178), by what it will return: `done` for `run`, true for
  `set_run_state(Running)` (R161, R176). The model's own field (log entry 5). -/
  runCall : Option HostReply
  /-- What the host operations that returned last returned, in order: one, or, where a host move ends a run, that move
  and then the call of `run`. The model's own field (log entry 5). -/
  replies : List HostReply
  deriving DecidableEq, Repr

/-! ### How a step can stop -/

/-- The faults of the block. Closed: there are no others. -/
inductive Fault where
  /-- `FATAL` (00_scope.md R12, 70_reset_and_hazards.md R444): a controller cycle, `run` or `step` before the host's
  initialisation (R440), after `shutdown` or without the Memory Subsystem, or that initialisation without the
  Memory Subsystem. Raised by the cycle and by those host operations, never by an instruction. Safe: the spec
  gives no successor. -/
  | fatal
  deriving DecidableEq, Repr

/-- The refusals of the block. Closed: there are no others. -/
inductive Refusal where
  /-- No meaning yet for this row of the opcode table. Raised by `exec` only; no arm does. Safe. -/
  | notModelled (mnemonic : String)
  /-- `REFUSED` (00_scope.md R12, 40_controller.md R145): a control-transfer instruction in a delay slot, which
  the spec leaves without a meaning. Raised by every instruction of the class of R142. Safe. -/
  | controlTransferInDelaySlot
  deriving DecidableEq, Repr

/-! ### Reset -/

/-- What a cell of DRAM or SRAM that is not listed reads as: both are zero-initialised (10_state.md R43). -/
def unlistedByte : Byte := 0#8

/-- The initial mapping list (20_memory.md R64), in its order. -/
def initialMaps : List Mapping :=
  [ { vbase := 0x00000000#32
      pbase := BitVec.ofNat 32 Config.dramPbase, size := BitVec.ofNat 32 Config.dramSize },
    { vbase := BitVec.ofNat 32 Config.kseg0Alias
      pbase := BitVec.ofNat 32 Config.dramPbase, size := BitVec.ofNat 32 Config.dramSize },
    { vbase := BitVec.ofNat 32 Config.kseg1Alias
      pbase := BitVec.ofNat 32 Config.dramPbase, size := BitVec.ofNat 32 Config.dramSize },
    { vbase := BitVec.ofNat 32 Config.sramVbase
      pbase := BitVec.ofNat 32 Config.sramPbase, size := BitVec.ofNat 32 Config.sramSize } ]

/-- The MMIO slots after initialisation: `MMIO_INIT[0..7]` (R43, 20_memory.md R76). -/
def initialMmio : Vector Word 8 :=
  #v[Config.mmioInit 0, Config.mmioInit 1, Config.mmioInit 2, Config.mmioInit 3,
     Config.mmioInit 4, Config.mmioInit 5, Config.mmioInit 6, Config.mmioInit 7]

/-- The Processor State after initialisation by the host: every field 0 (R41). -/
def Cpu.reset : Cpu where
  gpr   := Vector.replicate 32 0#32
  hi    := 0#32
  lo    := 0#32
  pc    := Config.resetPc
  delay := .none
  llbit := false
  cp0   := Vector.replicate 32 0#32
  fpr   := Vector.replicate 32 0#64
  fcr   := Vector.replicate 32 0#32

/-- The controller's state after initialisation by the host (R41, 70_reset_and_hazards.md R440). -/
def Ctl.reset : Ctl where
  runState     := .stopped
  execMode     := .interpreter
  cycles       := 0#64
  instructions := 0#64
  bp           := []
  pendingExc   := none
  initialized  := true
  runCount     := 0
  stepReturn   := .stopped

/-- The Memory Subsystem after its initialisation (R43). -/
def MemSys.reset : MemSys where
  dram      := []
  sram      := []
  rom       := []
  romLoaded := false
  maps      := initialMaps
  mmio      := initialMmio
  memReads  := 0#64
  memWrites := 0#64
  memReady  := true

/-- The block after Memory Subsystem initialisation and initialisation by the host (R41, R43,
70_reset_and_hazards.md R445 steps 1 and 2), with no host move pending (log entries 1 and 10). -/
def State.reset : State where
  cpu    := Cpu.reset
  ctl    := Ctl.reset
  mem    := MemSys.reset
  agenda := []
  runCall := none
  replies := []

end Sys2Proof.Machine
end

