-- ==== Sys2Proof/Machine/Ops.lean ====
section
/-! DEFINITION. The named operations the meanings are written over: registers (10_state.md), memory
(20_memory.md), counting and sequencing (40_controller.md sections 1 to 3), and trap entry and return
(60_exceptions.md section 2, 45_system.md R322). -/

namespace Sys2Proof.Machine

/-- The outcome of a step of this block. -/
abbrev Result := Host.Outcome State Fault Refusal

/-! ### Registers -/

/-- `x[i]`: `x[0]` reads 0 (10_state.md R20). -/
def State.x (s : State) (i : Reg) : Word :=
  if i = 0 then 0#32 else s.cpu.gpr[i.val]

/-- `x[i] <- v`: a write of `x[0]` is discarded (R20). -/
def State.setX (s : State) (i : Reg) (v : Word) : State :=
  if i = 0 then s else { s with cpu := { s.cpu with gpr := s.cpu.gpr.set i.val v } }

/-- `hi <- v` (R21). -/
def State.setHi (s : State) (v : Word) : State := { s with cpu := { s.cpu with hi := v } }

/-- `lo <- v` (R21). -/
def State.setLo (s : State) (v : Word) : State := { s with cpu := { s.cpu with lo := v } }

/-- `pc <- v` (R22). -/
def State.setPc (s : State) (v : Word) : State := { s with cpu := { s.cpu with pc := v } }

/-- `delay <- d` (R23). -/
def State.setDelay (s : State) (d : Delay) : State := { s with cpu := { s.cpu with delay := d } }

/-- `llbit <- b` (R24). -/
def State.setLL (s : State) (b : Bool) : State := { s with cpu := { s.cpu with llbit := b } }

/-- `cp0[i]` (R26). -/
def State.cp0 (s : State) (i : Reg) : Word := s.cpu.cp0[i.val]

/-- `cp0[i] <- v`, all 32 bits (R26). -/
def State.setCp0 (s : State) (i : Reg) (v : Word) : State :=
  { s with cpu := { s.cpu with cp0 := s.cpu.cp0.set i.val v } }

/-- `fpr[i]` (R31). -/
def State.fpr (s : State) (i : Reg) : DWord := s.cpu.fpr[i.val]

/-- `fpr[i] <- v`, all 64 bits (R31). -/
def State.setFpr (s : State) (i : Reg) (v : DWord) : State :=
  { s with cpu := { s.cpu with fpr := s.cpu.fpr.set i.val v } }

/-- `fcr[i]` (R32). -/
def State.fcr (s : State) (i : Reg) : Word := s.cpu.fcr[i.val]

/-- `fcr[i] <- v`, all 32 bits (R32). -/
def State.setFcr (s : State) (i : Reg) (v : Word) : State :=
  { s with cpu := { s.cpu with fcr := s.cpu.fcr.set i.val v } }

/-- The number of Status (R27). -/
def regStatus : Reg := 12
/-- The number of Cause (R27). -/
def regCause : Reg := 13
/-- The number of EPC (R27). -/
def regEPC : Reg := 14
/-- The number of ErrorEPC (R27). -/
def regErrorEPC : Reg := 30
/-- The number of FCSR among the FPU control registers (R32). -/
def regFCSR : Reg := 31
/-- The link register of the branch-and-link instructions and JAL (43_branch.md R251). -/
def regRA : Reg := 31

/-- `Status`. -/
def State.status (s : State) : Word := s.cp0 regStatus
/-- `Cause`. -/
def State.cause (s : State) : Word := s.cp0 regCause
/-- `EPC`. -/
def State.epc (s : State) : Word := s.cp0 regEPC
/-- `FCSR`. -/
def State.fcsr (s : State) : Word := s.fcr regFCSR

/-! ### Byte arrays -/

/-- The byte at index `a` of a byte array. -/
def Memory.read : Memory → Nat → Byte
  | [], _ => unlistedByte
  | (k, b) :: m, a => if k = a then b else Memory.read m a

/-- The array with byte `b` at index `a`, in the canonical form: writing `unlistedByte` unlists the index. -/
def Memory.write : Memory → Nat → Byte → Memory
  | [], a, b => if b = unlistedByte then [] else [(a, b)]
  | (k, c) :: m, a, b =>
    if a < k then (if b = unlistedByte then (k, c) :: m else (a, b) :: (k, c) :: m)
    else if a = k then (if b = unlistedByte then m else (a, b) :: m)
    else (k, c) :: Memory.write m a b

/-- The canonical form: indexes strictly rising, and no byte listed that an unlisted index reads as. -/
abbrev Memory.wf (m : Memory) : Prop :=
  m.Pairwise (fun c d => c.1 < d.1) ∧ ∀ c ∈ m, c.2 ≠ unlistedByte

/-! ### Translation and region dispatch (20_memory.md sections 2 and 3) -/

/-- The mapping contains the virtual address, as integers (R63). -/
def Mapping.contains (m : Mapping) (va : Word) : Bool :=
  m.vbase.toNat ≤ va.toNat && va.toNat < m.vbase.toNat + m.size.toNat

/-- `Translate(va)`: the first mapping that contains `va`, else identity (R63). -/
def translate : List Mapping → Word → Word
  | [], va => va
  | m :: ms, va => if m.contains va then m.pbase + (va - m.vbase) else translate ms va

/-- `DRAM_PBASE <= pa < DRAM_PBASE + DRAM_SIZE` (R62). -/
def inDram (pa : Word) : Bool :=
  Config.dramPbase ≤ pa.toNat && pa.toNat < Config.dramPbase + Config.dramSize

/-- `SRAM_PBASE <= pa < SRAM_PBASE + SRAM_SIZE` (R62). -/
def inSram (pa : Word) : Bool :=
  Config.sramPbase ≤ pa.toNat && pa.toNat < Config.sramPbase + Config.sramSize

/-- `rom_loaded` and `ROM_PBASE <= pa < ROM_PBASE + |rom|` (R62). -/
def MemSys.inRom (m : MemSys) (pa : Word) : Bool :=
  m.romLoaded && (Config.romPbase ≤ pa.toNat && pa.toNat < Config.romPbase + m.rom.length)

/-- The region of a physical address, in priority order (R62). -/
def MemSys.physRegion (m : MemSys) (pa : Word) : Region :=
  if inDram pa then .dram
  else if inSram pa then .sram
  else if m.inRom pa then .rom
  else .unmapped

/-- Addresses at or above `MMIO_BASE` reach the MMIO block, whatever the mappings (R70, R79). -/
def isMmio (va : Word) : Bool := Config.mmioBase ≤ va.toNat

/-- `get_region_for_address(va)` (R96). -/
def MemSys.region (m : MemSys) (va : Word) : Region :=
  if isMmio va then .mmio else m.physRegion (translate m.maps va)

/-- `pa - base`: the index of a physical byte in its region (R72, R73). -/
def offsetFrom (base : Nat) (pa : Word) : Nat := (pa - BitVec.ofNat 32 base).toNat

/-- `PByteRead(pa)` (R72). -/
def MemSys.pByteRead (m : MemSys) (pa : Word) : Byte :=
  match m.physRegion pa with
  | .dram => Memory.read m.dram (offsetFrom Config.dramPbase pa)
  | .sram => Memory.read m.sram (offsetFrom Config.sramPbase pa)
  | .rom => m.rom.getD (offsetFrom Config.romPbase pa) Config.unmappedByte
  | .mmio => Config.unmappedByte
  | .unmapped => Config.unmappedByte

/-- `PByteWrite(pa, b)` (R73): ROM and unmapped writes are discarded. -/
def MemSys.pByteWrite (m : MemSys) (pa : Word) (b : Byte) : MemSys :=
  match m.physRegion pa with
  | .dram => { m with dram := Memory.write m.dram (offsetFrom Config.dramPbase pa) b }
  | .sram => { m with sram := Memory.write m.sram (offsetFrom Config.sramPbase pa) b }
  | .rom => m
  | .mmio => m
  | .unmapped => m

/-! ### The MMIO block (20_memory.md section 4) -/

/-- The slot whose register is the aligned word of `va`, if that word is one (R77): offset 0 of each 16-byte
slot, slots 0 to 7. -/
def mmioSlot (va : Word) : Option (Fin 8) :=
  let off := ((va - BitVec.ofNat 32 (va.toNat % 4)) - BitVec.ofNat 32 Config.mmioBase).toNat
  if h : off % Config.mmioSlotStride = 0 ∧ off / Config.mmioSlotStride < 8 then
    some ⟨off / Config.mmioSlotStride, h.2⟩
  else none

/-- `MmioWord(w)` for the aligned word of `va` (R77). -/
def MemSys.mmioWord (m : MemSys) (va : Word) : Word :=
  match mmioSlot va with
  | some i => m.mmio[i.val]
  | none => Config.mmioUnknownWord

/-- Byte lane `k` of a word, lane 0 the most significant: `v[31-8k : 24-8k]` (R78). -/
def byteLane (v : Word) (k : Nat) : Byte := v.extractLsb' (24 - 8 * k) 8

/-- `v` with byte lane `k` replaced (R78). -/
def putByteLane (v : Word) (k : Nat) (b : Byte) : Word := putField v (24 - 8 * k) b

/-- `MmioByteRead(va)` (R78). -/
def MemSys.mmioByteRead (m : MemSys) (va : Word) : Byte :=
  byteLane (m.mmioWord va) (va.toNat % 4)

/-- Slots 1 to 6 accept writes; device ID (0) and device-manufacturer (7) ignore them (R76, R78). -/
def mmioWritable (i : Fin 8) : Bool := 1 ≤ i.val && i.val ≤ 6

/-- `MmioByteWrite(va, b)` (R78). -/
def MemSys.mmioByteWrite (m : MemSys) (va : Word) (b : Byte) : MemSys :=
  match mmioSlot va with
  | some i =>
    if mmioWritable i then
      { m with mmio := m.mmio.set i.val (putByteLane m.mmio[i.val] (va.toNat % 4) b) }
    else m
  | none => m

/-! ### Bytes and words at virtual addresses (20_memory.md sections 3 and 6) -/

/-- `VByteRead(va)` (R70). -/
def MemSys.byteRead (m : MemSys) (va : Word) : Byte :=
  if isMmio va then m.mmioByteRead va else m.pByteRead (translate m.maps va)

/-- `VByteWrite(va, b)` (R71). -/
def MemSys.byteWrite (m : MemSys) (va : Word) (b : Byte) : MemSys :=
  if isMmio va then m.mmioByteWrite va b else m.pByteWrite (translate m.maps va) b

/-- The `n` bytes from `va` on, in address order, addresses modulo 2^32 (R84). -/
def MemSys.readBytes (m : MemSys) (va : Word) : Nat → List Byte
  | 0 => []
  | n + 1 => m.byteRead va :: m.readBytes (va + 1#32) n

/-- Writing the bytes from `va` on, in ascending order, addresses modulo 2^32 (R85). -/
def MemSys.writeBytes (m : MemSys) (va : Word) : List Byte → MemSys
  | [] => m
  | b :: bs => (m.byteWrite va b).writeBytes (va + 1#32) bs

/-- The `w`-bit value whose bytes, most significant first, are the list (R84). -/
def ofBytes (w : Nat) (bs : List Byte) : BitVec w :=
  bs.foldl (fun acc b => (acc <<< 8) ||| b.setWidth w) 0#w

/-- The `n` low bytes of a value, most significant first (R85, 00_scope.md R11). -/
def beBytes {w : Nat} (v : BitVec w) : Nat → List Byte
  | 0 => []
  | n + 1 => v.extractLsb' (8 * n) 8 :: beBytes v n

/-- The value `MemRead(addr, n)` returns, as a `w`-bit value, `w = 8n` (R86). -/
def State.memValue (s : State) (w n : Nat) (addr : Word) : BitVec w :=
  ofBytes w (s.mem.readBytes addr n)

/-- `mem_reads <- mem_reads + 1` (R86, R95). -/
def State.countRead (s : State) : State :=
  { s with mem := { s.mem with memReads := s.mem.memReads + 1#64 } }

/-- `MemWrite(addr, n, v)`, `v` given as its `n` bytes: one counted write (R87). -/
def State.memWrite (s : State) (addr : Word) (bs : List Byte) : State :=
  { s with mem := { s.mem.writeBytes addr bs with memWrites := s.mem.memWrites + 1#64 } }

/-- `Fetch(pc)`: the 32-bit word at `pc` (R88). -/
def State.fetchWord (s : State) : Word := s.memValue 32 4 s.cpu.pc

/-! ### Exceptions (60_exceptions.md R400) -/

/-- The exceptions of R400 that have a name. -/
inductive Exception where
  | interrupt | tlbModified | tlbLoad | tlbStore | addressErrorLoad | addressErrorStore
  | instructionBusError | dataBusError | syscall | breakpoint | reservedInstruction
  | coprocessorUnusable | integerOverflow | trap | floatingPoint | watch
  deriving DecidableEq, Repr

/-- `Cause.ExcCode` of an exception (R400). -/
def Exception.code : Exception → BitVec 5
  | .interrupt => 0#5
  | .tlbModified => 1#5
  | .tlbLoad => 2#5
  | .tlbStore => 3#5
  | .addressErrorLoad => 4#5
  | .addressErrorStore => 5#5
  | .instructionBusError => 6#5
  | .dataBusError => 7#5
  | .syscall => 8#5
  | .breakpoint => 9#5
  | .reservedInstruction => 10#5
  | .coprocessorUnusable => 11#5
  | .integerOverflow => 12#5
  | .trap => 13#5
  | .floatingPoint => 15#5
  | .watch => 23#5

/-- The restart address: the branch before a delay slot, else the instruction itself (R404). -/
def State.restartAddress (s : State) : Word :=
  if s.cpu.delay = .none then s.cpu.pc else s.cpu.pc - 4#32

/-- `TrapEntry(code, ce)` (R404): `EPC` and `Cause.BD` only when `Status.EXL` was 0, then `Cause.ExcCode`,
`Cause.CE`, `Status.EXL`, `pc` and `delay`. -/
def trapEntry (code : BitVec 5) (ce : BitVec 2) (s : State) : State :=
  let saved :=
    if statusEXL s.status then s
    else (s.setCp0 regEPC s.restartAddress).setCp0 regCause (putBD s.cause (s.cpu.delay ≠ .none))
  let caused := saved.setCp0 regCause (putCE (putExcCode saved.cause code) ce)
  let raised := caused.setCp0 regStatus (putEXL caused.status true)
  (raised.setPc Config.excVector).setDelay .none

/-- `InterruptPending()` (R412). -/
def State.interruptPending (s : State) : Bool :=
  statusIE s.status && !statusEXL s.status && !statusERL s.status &&
    (causeIP s.cause &&& statusIM s.status) != 0#8

/-- What ERET restores (45_system.md R322), without its `pc <- T`: the address it returns to, and the state with
`Status.ERL` or `Status.EXL` and `llbit` cleared. -/
def exceptionReturn (s : State) : Word × State :=
  if statusERL s.status then
    (s.cp0 regErrorEPC, (s.setCp0 regStatus (putERL s.status false)).setLL false)
  else
    (s.epc, (s.setCp0 regStatus (putEXL s.status false)).setLL false)

/-! ### The end of a cycle (40_controller.md R143 step 5) -/

/-- How an instruction that raised nothing ends (R143). -/
inductive Out where
  | next
  | taken (target : Word)
  | notTaken
  | annul
  | jump (target : Word)
  deriving DecidableEq, Repr

/-- `cycles <- cycles + 1; instructions <- instructions + 1` (R143, R150). -/
def State.count (s : State) : State :=
  { s with ctl := { s.ctl with
      cycles := s.ctl.cycles + Config.cyclesPerInstruction
      instructions := s.ctl.instructions + 1#64 } }

/-- The successor of the instruction at `pc` when `delay` is no taken slot (R149). -/
def sequenceOut (out : Out) (s : State) : State :=
  match out with
  | .next => (s.setPc (s.cpu.pc + 4#32)).setDelay .none
  | .taken t => (s.setPc (s.cpu.pc + 4#32)).setDelay (.taken t)
  | .notTaken => (s.setPc (s.cpu.pc + 4#32)).setDelay .notTaken
  | .annul => (s.setPc (s.cpu.pc + 8#32)).setDelay .none
  | .jump t => (s.setPc t).setDelay .none

/-- `Sequence(out)` (R149): an immediate jump first, then the end of a taken slot, then the rest. -/
def sequence (out : Out) (s : State) : State :=
  match out, s.cpu.delay with
  | .jump t, _ => sequenceOut (.jump t) s
  | _, .taken t => (s.setPc t).setDelay .none
  | o, .none => sequenceOut o s
  | o, .notTaken => sequenceOut o s

/-- Step 5 for an instruction that raised nothing. -/
def finish (out : Out) (s : State) : Result := .next (sequence out s.count)

/-- `Next`: the instruction completes. -/
def complete (s : State) : Result := finish .next s

/-- `raise E(ce)` (00_scope.md R11, R143): counted, then trap entry in the same cycle. -/
def raiseWith (e : Exception) (ce : BitVec 2) (s : State) : Result :=
  .next (trapEntry e.code ce s.count)

/-- `raise E()`: with `ce = 0` (60_exceptions.md R400). -/
def raise (e : Exception) (s : State) : Result := raiseWith e 0#2 s

/-- A control-transfer instruction (R142): REFUSED in a delay slot, before anything of it happens (R143 step 3,
R145). -/
def controlTransfer (s : State) (body : Result) : Result :=
  if s.cpu.delay = .none then body else .refused .controlTransferInDelaySlot

/-- `branch_to(T)` (R147). -/
def branchTo (target : Word) (s : State) : Result := finish (.taken target) s

/-- A conditional branch: `branch_to(T)` if the condition holds, else neither (R142). -/
def branchIf (c : Bool) (target : Word) (s : State) : Result :=
  finish (if c then .taken target else .notTaken) s

/-- A branch-likely: `branch_to(T)` if the condition holds, else `annul()` (R148). -/
def branchLikelyIf (c : Bool) (target : Word) (s : State) : Result :=
  finish (if c then .taken target else .annul) s

/-- A conditional trap: Tr if the condition holds, else `Next` (45_system.md sections 2 and 5). -/
def trapIf (c : Bool) (s : State) : Result :=
  if c then raise .trap s else complete s

/-- `CheckCU1()` first (46_fpu_move.md R344). -/
def checkCU1 (s : State) (body : Result) : Result :=
  if statusCU1 s.status then body else raiseWith .coprocessorUnusable 1#2 s

end Sys2Proof.Machine
end

