-- ==== Sys2Proof/Machine/Operands.lean ====
section
/-! DEFINITION. The operand forms: immediates (30_encoding.md R113), shift amounts, effective addresses
(44_loadstore.md R280), branch and jump targets and link values (43_branch.md R250, R251), the partial-word
lanes (44_loadstore.md R289) and the views of an FPU register (46_fpu_move.md R341, R342). -/

namespace Sys2Proof.Machine

/-- `sext_32(imm)`: arithmetic immediates and displacements (R113). -/
def sext (imm : BitVec 16) : Word := imm.signExtend 32

/-- `zext_32(imm)`: logical immediates (R113, conflict C2). -/
def zext (imm : BitVec 16) : Word := imm.setWidth 32

/-- `imm || 0x0000`: the upper immediate of LUI (R113). -/
def upper (imm : BitVec 16) : Word := imm ++ 0#16

/-- `x[rs][4:0]`: a variable shift amount (R113). -/
def shiftAmount (v : Word) : Nat := v.toNat % 32

/-- A 32-bit 0 or 1 (41_alu.md R204). -/
def boolWord (b : Bool) : Word := if b then 1#32 else 0#32

/-- `ea = x[base] + sext_32(imm)` (44_loadstore.md R280). -/
def effectiveAddress (s : State) (base : Reg) (offset : BitVec 16) : Word := s.x base + sext offset

/-- `(pc + 4) + sext_32(imm || 00)` (43_branch.md R250). -/
def branchTarget (s : State) (offset : BitVec 16) : Word :=
  (s.cpu.pc + 4#32) + (offset ++ 0#2).signExtend 32

/-- `(pc + 4)[31:28] || instr_index || 00` (R250). -/
def jumpTarget (s : State) (index : BitVec 26) : Word :=
  (s.cpu.pc + 4#32).extractLsb' 28 4 ++ index ++ 0#2

/-- The link value `pc + 8` (R251). -/
def linkValue (s : State) : Word := s.cpu.pc + 8#32

/-! ### Partial words (44_loadstore.md R289) -/

/-- `k = ea mod 4`. -/
def laneOf (ea : Word) : Nat := ea.toNat % 4

/-- `ea - k`: the aligned word that contains `ea`. -/
def alignedWord (ea : Word) : Word := ea - BitVec.ofNat 32 (laneOf ea)

/-- What LWL makes of the register value `r` and the aligned word `m`: `m[31-8k : 0] || r[8k-1 : 0]` (R292). -/
def mergeLeft (k : Nat) (m r : Word) : Word :=
  (m <<< (8 * k)) ||| (r &&& ~~~(BitVec.allOnes 32 <<< (8 * k)))

/-- What LWR makes of them: `r[31 : 8k+8] || m[31 : 24-8k]` (R293). -/
def mergeRight (k : Nat) (m r : Word) : Word :=
  (r &&& (BitVec.allOnes 32 <<< (8 * k + 8))) ||| (m >>> (24 - 8 * k))

/-- The bytes SWL stores from `ea` on: the `4 - k` most significant (R290). -/
def leftBytes (k : Nat) (r : Word) : List Byte := (beBytes r 4).take (4 - k)

/-- The bytes SWR stores from `ea - k` on: the `k + 1` least significant (R291). -/
def rightBytes (k : Nat) (r : Word) : List Byte := (beBytes r 4).drop (3 - k)

/-! ### Views of an FPU register (46_fpu_move.md R341, R342) -/

/-- The S or W view: bits 31:0. -/
def State.viewW (s : State) (i : Reg) : Word := (s.fpr i).setWidth 32

/-- The D or L view: all 64 bits. -/
def State.viewD (s : State) (i : Reg) : DWord := s.fpr i

/-- Writing the S or W view keeps bits 63:32. -/
def State.setViewW (s : State) (i : Reg) (v : Word) : State :=
  s.setFpr i ((s.fpr i).extractLsb' 32 32 ++ v)

/-- Writing the D or L view. -/
def State.setViewD (s : State) (i : Reg) (v : DWord) : State := s.setFpr i v

end Sys2Proof.Machine
end

