-- ==== Sys2Proof/Machine/Flags.lean ====
section
/-! DEFINITION. The condition bit, the FCSR update of the FPU arithmetic (47_fpu_arith.md R366) and the integer
overflow test (41_alu.md R214). The integer instructions have no flags (10_state.md R25). -/

namespace Sys2Proof.Machine

/-! ### Integer overflow -/

/-- An exact integer result does not fit in signed 32 bits (R214). -/
def overflows32 (v : Int) : Bool := v < -2 ^ 31 || v > 2 ^ 31 - 1

/-! ### FCSR -/

/-- The exceptions of `cause` that can be enabled, V, Z, O, U, I from the top (R366). -/
def FpCause.ieee (c : FpCause) : BitVec 5 :=
  BitVec.ofBool c.v ++ BitVec.ofBool c.z ++ BitVec.ofBool c.o ++ BitVec.ofBool c.u ++ BitVec.ofBool c.i

/-- `FCSR.Cause` for a set of exceptions: E, V, Z, O, U, I from the top (10_state.md R33). -/
def FpCause.toBits (c : FpCause) : BitVec 6 := BitVec.ofBool c.e ++ c.ieee

/-- Whether FPE is raised for this cause under these Enables (R366). -/
def FpCause.traps (c : FpCause) (enables : BitVec 5) : Bool := c.e || (c.ieee &&& enables) != 0#5

/-- The rounding mode in force (R362). -/
def State.rounding (s : State) : Rounding := Rounding.ofRM (fcsrRM s.fcsr)

/-- `FCSR <- v` by an instruction that computes. -/
def State.setFcsr (s : State) (v : Word) : State := s.setFcr regFCSR v

/-- `FCSR.Cause <- cause` (R366). -/
def State.setFpCause (s : State) (c : FpCause) : State := s.setFcsr (putFcsrCause s.fcsr c.toBits)

/-- `FCSR.Flags <- FCSR.Flags OR cause` (R366). -/
def State.raiseFlags (s : State) (c : FpCause) : State :=
  s.setFcsr (putFcsrFlags s.fcsr (fcsrFlags s.fcsr ||| c.ieee))

/-- `FCSR.C <- b` (R384). -/
def State.setCond (s : State) (b : Bool) : State := s.setFcsr (putFcsrC s.fcsr b)

/-- `FPFinish(cause, write)` (R366): Cause always; FPE without Flags or write if an exception is enabled; else
Flags, then the write. -/
def fpFinish (c : FpCause) (write : State → State) (s : State) : Result :=
  if c.traps (fcsrEnables s.fcsr) then raise .floatingPoint (s.setFpCause c)
  else complete (write ((s.setFpCause c).raiseFlags c))

/-- CTC1's test of the value written to FCSR (46_fpu_move.md R348): E set, or a Cause bit whose Enable is set. -/
def fcsrTraps (v : Word) : Bool :=
  bitAt v 17 || (fieldAt v 12 5 &&& fcsrEnables v) != 0#5

/-! ### Operands and results of the FPU arithmetic -/

/-- The bit pattern in the view of a format (46_fpu_move.md R341). -/
def State.fpBits (s : State) (f : Format) (i : Reg) : Nat :=
  match f with
  | .single => (s.viewW i).toNat
  | .double => (s.viewD i).toNat

/-- The value in the view of a format. -/
def State.fpValue (s : State) (f : Format) (i : Reg) : FpValue := unpack f (s.fpBits f i)

/-- Writing the view of a format (46_fpu_move.md R342). -/
def State.setFpBits (s : State) (f : Format) (i : Reg) (bits : Nat) : State :=
  match f with
  | .single => s.setViewW i (BitVec.ofNat 32 bits)
  | .double => s.setViewD i (BitVec.ofNat 64 bits)

/-- An operation whose result goes to the view of `f` of `fd`. -/
def fpWrite (f : Format) (r : FpResult) (fd : Reg) (s : State) : Result :=
  fpFinish r.cause (fun t => t.setFpBits f fd r.bits) s

/-- A two-operand operation: `CheckCU1(); (r, cause) <- round(F(fs) op F(ft)); FPFinish(cause, F(fd) <- r)`
(R368 to R371). -/
def fpBinary (op : Format → Rounding → FpValue → FpValue → FpResult) (f : Format) (fd fs ft : Reg) (s : State) :
    Result :=
  checkCU1 s (fpWrite f (op f s.rounding (s.fpValue f fs) (s.fpValue f ft)) fd s)

/-- A one-operand operation on a bit pattern (R373, R375). -/
def fpUnary (op : Format → Nat → FpResult) (f : Format) (fd fs : Reg) (s : State) : Result :=
  checkCU1 s (fpWrite f (op f (s.fpBits f fs)) fd s)

/-- A conversion to W with a rounding mode (section 3, R387). -/
def fpToWord (rm : Rounding) (f : Format) (fd fs : Reg) (s : State) : Result :=
  checkCU1 s <|
    let r := toInt rm 32 (s.fpValue f fs)
    fpFinish r.cause (fun t => t.setViewW fd (BitVec.ofNat 32 r.bits)) s

/-- A conversion to L with a rounding mode (section 3, R388). -/
def fpToLong (rm : Rounding) (f : Format) (fd fs : Reg) (s : State) : Result :=
  checkCU1 s <|
    let r := toInt rm 64 (s.fpValue f fs)
    fpFinish r.cause (fun t => t.setViewD fd (BitVec.ofNat 64 r.bits)) s

/-- A compare (R384): `CheckCU1(); ...; FPFinish(cause, FCSR.C <- c)`. -/
def fpCondition (cond : BitVec 4) (f : Format) (fs ft : Reg) (s : State) : Result :=
  checkCU1 s <|
    let (c, cause) := fpCompare cond (s.fpValue f fs) (s.fpValue f ft)
    fpFinish cause (fun t => t.setCond c) s

end Sys2Proof.Machine
end

