-- ==== Sys2Proof/Machine/Alu.lean ====
section
/-! DEFINITION. The integer ALU instructions (41_alu.md). -/

namespace Sys2Proof.Machine

/-- An instruction that writes one general register and completes. -/
def writeGpr (d : Reg) (v : Word) (s : State) : Result := complete (s.setX d v)

/-- An exact integer result: Ov if it does not fit in signed 32 bits, and then nothing is written (R214). -/
def writeChecked (d : Reg) (v : Int) (s : State) : Result :=
  if overflows32 v then raise .integerOverflow s else writeGpr d (BitVec.ofInt 32 v) s

/-- ADD (R190). -/
def execAdd (rd rs rt : Reg) (s : State) : Result := writeChecked rd ((s.x rs).toInt + (s.x rt).toInt) s
/-- ADDU (R191). -/
def execAddu (rd rs rt : Reg) (s : State) : Result := writeGpr rd (s.x rs + s.x rt) s
/-- SUB (R192). -/
def execSub (rd rs rt : Reg) (s : State) : Result := writeChecked rd ((s.x rs).toInt - (s.x rt).toInt) s
/-- SUBU (R193). -/
def execSubu (rd rs rt : Reg) (s : State) : Result := writeGpr rd (s.x rs - s.x rt) s
/-- ADDI (R194). -/
def execAddi (rt rs : Reg) (imm : BitVec 16) (s : State) : Result :=
  writeChecked rt ((s.x rs).toInt + (sext imm).toInt) s
/-- ADDIU (R195). -/
def execAddiu (rt rs : Reg) (imm : BitVec 16) (s : State) : Result := writeGpr rt (s.x rs + sext imm) s

/-- AND (R196). -/
def execAnd (rd rs rt : Reg) (s : State) : Result := writeGpr rd (s.x rs &&& s.x rt) s
/-- OR (R197). -/
def execOr (rd rs rt : Reg) (s : State) : Result := writeGpr rd (s.x rs ||| s.x rt) s
/-- XOR (R198). -/
def execXor (rd rs rt : Reg) (s : State) : Result := writeGpr rd (s.x rs ^^^ s.x rt) s
/-- NOR (R199). -/
def execNor (rd rs rt : Reg) (s : State) : Result := writeGpr rd (~~~(s.x rs ||| s.x rt)) s
/-- ANDI (R200): zero-extended immediate (conflict C2). -/
def execAndi (rt rs : Reg) (imm : BitVec 16) (s : State) : Result := writeGpr rt (s.x rs &&& zext imm) s
/-- ORI (R201): zero-extended immediate. -/
def execOri (rt rs : Reg) (imm : BitVec 16) (s : State) : Result := writeGpr rt (s.x rs ||| zext imm) s
/-- XORI (R202): zero-extended immediate. -/
def execXori (rt rs : Reg) (imm : BitVec 16) (s : State) : Result := writeGpr rt (s.x rs ^^^ zext imm) s
/-- LUI (R203). -/
def execLui (rt : Reg) (imm : BitVec 16) (s : State) : Result := writeGpr rt (upper imm) s

/-- SLT (R204). -/
def execSlt (rd rs rt : Reg) (s : State) : Result := writeGpr rd (boolWord ((s.x rs).slt (s.x rt))) s
/-- SLTU (R205). -/
def execSltu (rd rs rt : Reg) (s : State) : Result := writeGpr rd (boolWord ((s.x rs).ult (s.x rt))) s
/-- SLTI (R206). -/
def execSlti (rt rs : Reg) (imm : BitVec 16) (s : State) : Result :=
  writeGpr rt (boolWord ((s.x rs).slt (sext imm))) s
/-- SLTIU (R207): the immediate is sign-extended, then compared unsigned. -/
def execSltiu (rt rs : Reg) (imm : BitVec 16) (s : State) : Result :=
  writeGpr rt (boolWord ((s.x rs).ult (sext imm))) s

/-- SLL (R208). -/
def execSll (rd rt : Reg) (sa : Nat) (s : State) : Result := writeGpr rd (s.x rt <<< sa) s
/-- SRL (R209). -/
def execSrl (rd rt : Reg) (sa : Nat) (s : State) : Result := writeGpr rd (s.x rt >>> sa) s
/-- SRA (R210). -/
def execSra (rd rt : Reg) (sa : Nat) (s : State) : Result := writeGpr rd ((s.x rt).sshiftRight sa) s
/-- SLLV (R211). -/
def execSllv (rd rt rs : Reg) (s : State) : Result := writeGpr rd (s.x rt <<< shiftAmount (s.x rs)) s
/-- SRLV (R212). -/
def execSrlv (rd rt rs : Reg) (s : State) : Result := writeGpr rd (s.x rt >>> shiftAmount (s.x rs)) s
/-- SRAV (R213). -/
def execSrav (rd rt rs : Reg) (s : State) : Result :=
  writeGpr rd ((s.x rt).sshiftRight (shiftAmount (s.x rs))) s

end Sys2Proof.Machine
end

