-- ==== Sys2Proof/Machine/Branch.lean ====
section
/-! DEFINITION. Jumps and branches (43_branch.md). All are control-transfer instructions (40_controller.md
R142), REFUSED in a delay slot (R145). Targets and conditions are computed from the old register values,
before a link is written (R250, R251, decision D24). -/

namespace Sys2Proof.Machine

/-- `x[rs] <s 0`. -/
def isNegative (v : Word) : Bool := v.toInt < 0
/-- `x[rs] <=s 0`. -/
def isNonPositive (v : Word) : Bool := v.toInt ≤ 0

/-- `x[31] <- pc + 8` (R251). -/
def State.link (s : State) : State := s.setX regRA (linkValue s)

/-- J (R252). -/
def execJ (target : BitVec 26) (s : State) : Result :=
  controlTransfer s (branchTo (jumpTarget s target) s)
/-- JAL (R253). -/
def execJal (target : BitVec 26) (s : State) : Result :=
  controlTransfer s (branchTo (jumpTarget s target) s.link)
/-- JR (R254). -/
def execJr (rs : Reg) (s : State) : Result := controlTransfer s (branchTo (s.x rs) s)
/-- JALR (R255): the target is the old `x[rs]`. -/
def execJalr (rd rs : Reg) (s : State) : Result :=
  controlTransfer s (branchTo (s.x rs) (s.setX rd (linkValue s)))

/-- BEQ (R256). -/
def execBeq (rs rt : Reg) (offset : BitVec 16) (s : State) : Result :=
  controlTransfer s (branchIf (s.x rs == s.x rt) (branchTarget s offset) s)
/-- BNE (R257). -/
def execBne (rs rt : Reg) (offset : BitVec 16) (s : State) : Result :=
  controlTransfer s (branchIf (s.x rs != s.x rt) (branchTarget s offset) s)
/-- BLEZ (R258). -/
def execBlez (rs : Reg) (offset : BitVec 16) (s : State) : Result :=
  controlTransfer s (branchIf (isNonPositive (s.x rs)) (branchTarget s offset) s)
/-- BGTZ (R259). -/
def execBgtz (rs : Reg) (offset : BitVec 16) (s : State) : Result :=
  controlTransfer s (branchIf (!isNonPositive (s.x rs)) (branchTarget s offset) s)
/-- BEQL (R264). -/
def execBeql (rs rt : Reg) (offset : BitVec 16) (s : State) : Result :=
  controlTransfer s (branchLikelyIf (s.x rs == s.x rt) (branchTarget s offset) s)
/-- BNEL (R265). -/
def execBnel (rs rt : Reg) (offset : BitVec 16) (s : State) : Result :=
  controlTransfer s (branchLikelyIf (s.x rs != s.x rt) (branchTarget s offset) s)
/-- BLEZL (R266). -/
def execBlezl (rs : Reg) (offset : BitVec 16) (s : State) : Result :=
  controlTransfer s (branchLikelyIf (isNonPositive (s.x rs)) (branchTarget s offset) s)
/-- BGTZL (R267). -/
def execBgtzl (rs : Reg) (offset : BitVec 16) (s : State) : Result :=
  controlTransfer s (branchLikelyIf (!isNonPositive (s.x rs)) (branchTarget s offset) s)
/-- BLTZ (R260). -/
def execBltz (rs : Reg) (offset : BitVec 16) (s : State) : Result :=
  controlTransfer s (branchIf (isNegative (s.x rs)) (branchTarget s offset) s)
/-- BGEZ (R261). -/
def execBgez (rs : Reg) (offset : BitVec 16) (s : State) : Result :=
  controlTransfer s (branchIf (!isNegative (s.x rs)) (branchTarget s offset) s)
/-- BLTZAL (R262). -/
def execBltzal (rs : Reg) (offset : BitVec 16) (s : State) : Result :=
  controlTransfer s (branchIf (isNegative (s.x rs)) (branchTarget s offset) s.link)
/-- BGEZAL (R263). -/
def execBgezal (rs : Reg) (offset : BitVec 16) (s : State) : Result :=
  controlTransfer s (branchIf (!isNegative (s.x rs)) (branchTarget s offset) s.link)
/-- BLTZL (R268). -/
def execBltzl (rs : Reg) (offset : BitVec 16) (s : State) : Result :=
  controlTransfer s (branchLikelyIf (isNegative (s.x rs)) (branchTarget s offset) s)
/-- BGEZL (R269). -/
def execBgezl (rs : Reg) (offset : BitVec 16) (s : State) : Result :=
  controlTransfer s (branchLikelyIf (!isNegative (s.x rs)) (branchTarget s offset) s)
/-- BLTZALL (R270). -/
def execBltzall (rs : Reg) (offset : BitVec 16) (s : State) : Result :=
  controlTransfer s (branchLikelyIf (isNegative (s.x rs)) (branchTarget s offset) s.link)
/-- BGEZALL (R271). -/
def execBgezall (rs : Reg) (offset : BitVec 16) (s : State) : Result :=
  controlTransfer s (branchLikelyIf (!isNegative (s.x rs)) (branchTarget s offset) s.link)

end Sys2Proof.Machine
end

