-- ==== Sys2Proof/Machine/FpuArith.lean ====
section
/-! DEFINITION. FPU arithmetic, conversion and compare (47_fpu_arith.md); each begins with CheckCU1, and each
but MOV ends with FPFinish (R366). -/

namespace Sys2Proof.Machine

/-- ADD.S (R368). -/
def execAddS (fd fs ft : Reg) (s : State) : Result := fpBinary fpAdd .single fd fs ft s
/-- SUB.S (R369). -/
def execSubS (fd fs ft : Reg) (s : State) : Result := fpBinary fpSub .single fd fs ft s
/-- MUL.S (R370). -/
def execMulS (fd fs ft : Reg) (s : State) : Result := fpBinary fpMul .single fd fs ft s
/-- DIV.S (R371). -/
def execDivS (fd fs ft : Reg) (s : State) : Result := fpBinary fpDiv .single fd fs ft s
/-- SQRT.S (R372). -/
def execSqrtS (fd fs : Reg) (s : State) : Result :=
  checkCU1 s (fpWrite .single (fpSqrt .single s.rounding (s.fpValue .single fs)) fd s)
/-- ABS.S (R373). -/
def execAbsS (fd fs : Reg) (s : State) : Result := fpUnary fpAbs .single fd fs s
/-- MOV.S (R374): a bit copy, FCSR unchanged. -/
def execMovS (fd fs : Reg) (s : State) : Result :=
  checkCU1 s (complete (s.setFpBits .single fd (s.fpBits .single fs)))
/-- NEG.S (R375). -/
def execNegS (fd fs : Reg) (s : State) : Result := fpUnary fpNeg .single fd fs s
/-- ROUND.L.S (R380). -/
def execRoundLS (fd fs : Reg) (s : State) : Result := fpToLong .nearest .single fd fs s
/-- TRUNC.L.S (R381). -/
def execTruncLS (fd fs : Reg) (s : State) : Result := fpToLong .zero .single fd fs s
/-- CEIL.L.S (R382). -/
def execCeilLS (fd fs : Reg) (s : State) : Result := fpToLong .up .single fd fs s
/-- FLOOR.L.S (R383). -/
def execFloorLS (fd fs : Reg) (s : State) : Result := fpToLong .down .single fd fs s
/-- ROUND.W.S (R376). -/
def execRoundWS (fd fs : Reg) (s : State) : Result := fpToWord .nearest .single fd fs s
/-- TRUNC.W.S (R377). -/
def execTruncWS (fd fs : Reg) (s : State) : Result := fpToWord .zero .single fd fs s
/-- CEIL.W.S (R378). -/
def execCeilWS (fd fs : Reg) (s : State) : Result := fpToWord .up .single fd fs s
/-- FLOOR.W.S (R379). -/
def execFloorWS (fd fs : Reg) (s : State) : Result := fpToWord .down .single fd fs s
/-- CVT.W.S (R387). -/
def execCvtWS (fd fs : Reg) (s : State) : Result := fpToWord s.rounding .single fd fs s
/-- CVT.L.S (R388). -/
def execCvtLS (fd fs : Reg) (s : State) : Result := fpToLong s.rounding .single fd fs s
/-- ADD.D (R368). -/
def execAddD (fd fs ft : Reg) (s : State) : Result := fpBinary fpAdd .double fd fs ft s
/-- SUB.D (R369). -/
def execSubD (fd fs ft : Reg) (s : State) : Result := fpBinary fpSub .double fd fs ft s
/-- MUL.D (R370). -/
def execMulD (fd fs ft : Reg) (s : State) : Result := fpBinary fpMul .double fd fs ft s
/-- DIV.D (R371). -/
def execDivD (fd fs ft : Reg) (s : State) : Result := fpBinary fpDiv .double fd fs ft s
/-- SQRT.D (R372). -/
def execSqrtD (fd fs : Reg) (s : State) : Result :=
  checkCU1 s (fpWrite .double (fpSqrt .double s.rounding (s.fpValue .double fs)) fd s)
/-- ABS.D (R373). -/
def execAbsD (fd fs : Reg) (s : State) : Result := fpUnary fpAbs .double fd fs s
/-- MOV.D (R374): a bit copy, FCSR unchanged. -/
def execMovD (fd fs : Reg) (s : State) : Result :=
  checkCU1 s (complete (s.setFpBits .double fd (s.fpBits .double fs)))
/-- NEG.D (R375). -/
def execNegD (fd fs : Reg) (s : State) : Result := fpUnary fpNeg .double fd fs s
/-- ROUND.L.D (R380). -/
def execRoundLD (fd fs : Reg) (s : State) : Result := fpToLong .nearest .double fd fs s
/-- TRUNC.L.D (R381). -/
def execTruncLD (fd fs : Reg) (s : State) : Result := fpToLong .zero .double fd fs s
/-- CEIL.L.D (R382). -/
def execCeilLD (fd fs : Reg) (s : State) : Result := fpToLong .up .double fd fs s
/-- FLOOR.L.D (R383). -/
def execFloorLD (fd fs : Reg) (s : State) : Result := fpToLong .down .double fd fs s
/-- ROUND.W.D (R376). -/
def execRoundWD (fd fs : Reg) (s : State) : Result := fpToWord .nearest .double fd fs s
/-- TRUNC.W.D (R377). -/
def execTruncWD (fd fs : Reg) (s : State) : Result := fpToWord .zero .double fd fs s
/-- CEIL.W.D (R378). -/
def execCeilWD (fd fs : Reg) (s : State) : Result := fpToWord .up .double fd fs s
/-- FLOOR.W.D (R379). -/
def execFloorWD (fd fs : Reg) (s : State) : Result := fpToWord .down .double fd fs s
/-- CVT.W.D (R387). -/
def execCvtWD (fd fs : Reg) (s : State) : Result := fpToWord s.rounding .double fd fs s
/-- CVT.L.D (R388). -/
def execCvtLD (fd fs : Reg) (s : State) : Result := fpToLong s.rounding .double fd fs s
/-- CVT.S.D (R385). -/
def execCvtSD (fd fs : Reg) (s : State) : Result :=
  checkCU1 s (fpWrite .single (fpConvert .single s.rounding (s.fpValue .double fs)) fd s)
/-- CVT.S.W (R385). -/
def execCvtSW (fd fs : Reg) (s : State) : Result :=
  checkCU1 s (fpWrite .single (fpOfInt .single s.rounding (s.viewW fs).toInt) fd s)
/-- CVT.S.L (R385). -/
def execCvtSL (fd fs : Reg) (s : State) : Result :=
  checkCU1 s (fpWrite .single (fpOfInt .single s.rounding (s.viewD fs).toInt) fd s)
/-- CVT.D.S (R386). -/
def execCvtDS (fd fs : Reg) (s : State) : Result :=
  checkCU1 s (fpWrite .double (fpConvert .double s.rounding (s.fpValue .single fs)) fd s)
/-- CVT.D.W (R386). -/
def execCvtDW (fd fs : Reg) (s : State) : Result :=
  checkCU1 s (fpWrite .double (fpOfInt .double s.rounding (s.viewW fs).toInt) fd s)
/-- CVT.D.L (R386). -/
def execCvtDL (fd fs : Reg) (s : State) : Result :=
  checkCU1 s (fpWrite .double (fpOfInt .double s.rounding (s.viewD fs).toInt) fd s)
/-- C.F.S (R384), cond 0. -/
def execCFS (fs ft : Reg) (s : State) : Result := fpCondition 0x0#4 .single fs ft s
/-- C.UN.S (R384), cond 1. -/
def execCUnS (fs ft : Reg) (s : State) : Result := fpCondition 0x1#4 .single fs ft s
/-- C.EQ.S (R384), cond 2. -/
def execCEqS (fs ft : Reg) (s : State) : Result := fpCondition 0x2#4 .single fs ft s
/-- C.UEQ.S (R384), cond 3. -/
def execCUeqS (fs ft : Reg) (s : State) : Result := fpCondition 0x3#4 .single fs ft s
/-- C.OLT.S (R384), cond 4. -/
def execCOltS (fs ft : Reg) (s : State) : Result := fpCondition 0x4#4 .single fs ft s
/-- C.ULT.S (R384), cond 5. -/
def execCUltS (fs ft : Reg) (s : State) : Result := fpCondition 0x5#4 .single fs ft s
/-- C.OLE.S (R384), cond 6. -/
def execCOleS (fs ft : Reg) (s : State) : Result := fpCondition 0x6#4 .single fs ft s
/-- C.ULE.S (R384), cond 7. -/
def execCUleS (fs ft : Reg) (s : State) : Result := fpCondition 0x7#4 .single fs ft s
/-- C.SF.S (R384), cond 8. -/
def execCSfS (fs ft : Reg) (s : State) : Result := fpCondition 0x8#4 .single fs ft s
/-- C.NGLE.S (R384), cond 9. -/
def execCNgleS (fs ft : Reg) (s : State) : Result := fpCondition 0x9#4 .single fs ft s
/-- C.SEQ.S (R384), cond 10. -/
def execCSeqS (fs ft : Reg) (s : State) : Result := fpCondition 0xA#4 .single fs ft s
/-- C.NGL.S (R384), cond 11. -/
def execCNglS (fs ft : Reg) (s : State) : Result := fpCondition 0xB#4 .single fs ft s
/-- C.LT.S (R384), cond 12. -/
def execCLtS (fs ft : Reg) (s : State) : Result := fpCondition 0xC#4 .single fs ft s
/-- C.NGE.S (R384), cond 13. -/
def execCNgeS (fs ft : Reg) (s : State) : Result := fpCondition 0xD#4 .single fs ft s
/-- C.LE.S (R384), cond 14. -/
def execCLeS (fs ft : Reg) (s : State) : Result := fpCondition 0xE#4 .single fs ft s
/-- C.NGT.S (R384), cond 15. -/
def execCNgtS (fs ft : Reg) (s : State) : Result := fpCondition 0xF#4 .single fs ft s
/-- C.F.D (R384), cond 0. -/
def execCFD (fs ft : Reg) (s : State) : Result := fpCondition 0x0#4 .double fs ft s
/-- C.UN.D (R384), cond 1. -/
def execCUnD (fs ft : Reg) (s : State) : Result := fpCondition 0x1#4 .double fs ft s
/-- C.EQ.D (R384), cond 2. -/
def execCEqD (fs ft : Reg) (s : State) : Result := fpCondition 0x2#4 .double fs ft s
/-- C.UEQ.D (R384), cond 3. -/
def execCUeqD (fs ft : Reg) (s : State) : Result := fpCondition 0x3#4 .double fs ft s
/-- C.OLT.D (R384), cond 4. -/
def execCOltD (fs ft : Reg) (s : State) : Result := fpCondition 0x4#4 .double fs ft s
/-- C.ULT.D (R384), cond 5. -/
def execCUltD (fs ft : Reg) (s : State) : Result := fpCondition 0x5#4 .double fs ft s
/-- C.OLE.D (R384), cond 6. -/
def execCOleD (fs ft : Reg) (s : State) : Result := fpCondition 0x6#4 .double fs ft s
/-- C.ULE.D (R384), cond 7. -/
def execCUleD (fs ft : Reg) (s : State) : Result := fpCondition 0x7#4 .double fs ft s
/-- C.SF.D (R384), cond 8. -/
def execCSfD (fs ft : Reg) (s : State) : Result := fpCondition 0x8#4 .double fs ft s
/-- C.NGLE.D (R384), cond 9. -/
def execCNgleD (fs ft : Reg) (s : State) : Result := fpCondition 0x9#4 .double fs ft s
/-- C.SEQ.D (R384), cond 10. -/
def execCSeqD (fs ft : Reg) (s : State) : Result := fpCondition 0xA#4 .double fs ft s
/-- C.NGL.D (R384), cond 11. -/
def execCNglD (fs ft : Reg) (s : State) : Result := fpCondition 0xB#4 .double fs ft s
/-- C.LT.D (R384), cond 12. -/
def execCLtD (fs ft : Reg) (s : State) : Result := fpCondition 0xC#4 .double fs ft s
/-- C.NGE.D (R384), cond 13. -/
def execCNgeD (fs ft : Reg) (s : State) : Result := fpCondition 0xD#4 .double fs ft s
/-- C.LE.D (R384), cond 14. -/
def execCLeD (fs ft : Reg) (s : State) : Result := fpCondition 0xE#4 .double fs ft s
/-- C.NGT.D (R384), cond 15. -/
def execCNgtD (fs ft : Reg) (s : State) : Result := fpCondition 0xF#4 .double fs ft s

/-- A COP1 word that is no instruction (R361): CheckCU1, `FCSR.Cause <- E`, FPE. -/
def unimplementedCop1 (s : State) : Result :=
  checkCU1 s (fpFinish { e := true } id s)

end Sys2Proof.Machine
end

