-- ==== Sys2Proof/Machine/LoadStore.lean ====
section
/-! DEFINITION. Loads, stores and synchronisation (44_loadstore.md). -/

namespace Sys2Proof.Machine

/-- A load: one counted read of `n` bytes, its value extended into the register. -/
def loadInto (rt : Reg) (addr : Word) (w n : Nat) (extend : BitVec w → Word) (s : State) : Result :=
  writeGpr rt (extend (s.memValue w n addr)) s.countRead

/-- A store: one counted write of the bytes. -/
def storeBytes (addr : Word) (bs : List Byte) (s : State) : Result := complete (s.memWrite addr bs)

/-- LB (R281). -/
def execLb (rt base : Reg) (offset : BitVec 16) (s : State) : Result :=
  loadInto rt (effectiveAddress s base offset) 8 1 (fun v => v.signExtend 32) s
/-- LBU (R282). -/
def execLbu (rt base : Reg) (offset : BitVec 16) (s : State) : Result :=
  loadInto rt (effectiveAddress s base offset) 8 1 (fun v => v.setWidth 32) s
/-- LH (R283). -/
def execLh (rt base : Reg) (offset : BitVec 16) (s : State) : Result :=
  loadInto rt (effectiveAddress s base offset) 16 2 (fun v => v.signExtend 32) s
/-- LHU (R284). -/
def execLhu (rt base : Reg) (offset : BitVec 16) (s : State) : Result :=
  loadInto rt (effectiveAddress s base offset) 16 2 (fun v => v.setWidth 32) s
/-- LW (R285). -/
def execLw (rt base : Reg) (offset : BitVec 16) (s : State) : Result :=
  loadInto rt (effectiveAddress s base offset) 32 4 id s

/-- SB (R286). -/
def execSb (rt base : Reg) (offset : BitVec 16) (s : State) : Result :=
  storeBytes (effectiveAddress s base offset) (beBytes (s.x rt) 1) s
/-- SH (R287). -/
def execSh (rt base : Reg) (offset : BitVec 16) (s : State) : Result :=
  storeBytes (effectiveAddress s base offset) (beBytes (s.x rt) 2) s
/-- SW (R288). -/
def execSw (rt base : Reg) (offset : BitVec 16) (s : State) : Result :=
  storeBytes (effectiveAddress s base offset) (beBytes (s.x rt) 4) s

/-- SWL (R290). -/
def execSwl (rt base : Reg) (offset : BitVec 16) (s : State) : Result :=
  let ea := effectiveAddress s base offset
  storeBytes ea (leftBytes (laneOf ea) (s.x rt)) s
/-- SWR (R291). -/
def execSwr (rt base : Reg) (offset : BitVec 16) (s : State) : Result :=
  let ea := effectiveAddress s base offset
  storeBytes (alignedWord ea) (rightBytes (laneOf ea) (s.x rt)) s
/-- LWL (R292): reads the whole aligned word and merges it into the register. -/
def execLwl (rt base : Reg) (offset : BitVec 16) (s : State) : Result :=
  let ea := effectiveAddress s base offset
  loadInto rt (alignedWord ea) 32 4 (fun m => mergeLeft (laneOf ea) m (s.x rt)) s
/-- LWR (R293). -/
def execLwr (rt base : Reg) (offset : BitVec 16) (s : State) : Result :=
  let ea := effectiveAddress s base offset
  loadInto rt (alignedWord ea) 32 4 (fun m => mergeRight (laneOf ea) m (s.x rt)) s

/-- LL (R294): a load that sets `llbit`; no address is remembered. -/
def execLl (rt base : Reg) (offset : BitVec 16) (s : State) : Result :=
  loadInto rt (effectiveAddress s base offset) 32 4 id (s.setLL true)
/-- SC (R295): stores and answers 1 if `llbit` is set, else answers 0 with no access; clears `llbit`. -/
def execSc (rt base : Reg) (offset : BitVec 16) (s : State) : Result :=
  if s.cpu.llbit then
    writeGpr rt 1#32 ((s.memWrite (effectiveAddress s base offset) (beBytes (s.x rt) 4)).setLL false)
  else writeGpr rt 0#32 (s.setLL false)

/-- SYNC (R296): no operation. -/
def execSync (s : State) : Result := complete s
/-- CACHE (R297): no operation, whatever its `op`; the address is not used. -/
def execCache (s : State) : Result := complete s

end Sys2Proof.Machine
end

