-- ==== Sys2Proof/Machine/FpuMove.lean ====
section
/-! DEFINITION. FPU moves, loads, stores and branches (46_fpu_move.md); each begins with CheckCU1 (R344). -/

namespace Sys2Proof.Machine

/-- MFC1 (R345). -/
def execMfc1 (rt fs : Reg) (s : State) : Result := checkCU1 s (writeGpr rt (s.viewW fs) s)
/-- MTC1 (R346): bits 63:32 are kept. -/
def execMtc1 (rt fs : Reg) (s : State) : Result := checkCU1 s (complete (s.setViewW fs (s.x rt)))
/-- CFC1 (R347). -/
def execCfc1 (rt fs : Reg) (s : State) : Result := checkCU1 s (writeGpr rt (s.fcr fs) s)
/-- CTC1 (R348): the write stays even when the written FCSR raises FPE. -/
def execCtc1 (rt fs : Reg) (s : State) : Result :=
  checkCU1 s <|
    let t := s.setFcr fs (s.x rt)
    if fs = regFCSR ∧ fcsrTraps (s.x rt) then raise .floatingPoint t else complete t

/-- LWC1 (R349): bits 63:32 are kept. -/
def execLwc1 (ft base : Reg) (offset : BitVec 16) (s : State) : Result :=
  checkCU1 s (complete (s.countRead.setViewW ft (s.memValue 32 4 (effectiveAddress s base offset))))
/-- SWC1 (R350). -/
def execSwc1 (ft base : Reg) (offset : BitVec 16) (s : State) : Result :=
  checkCU1 s (storeBytes (effectiveAddress s base offset) (beBytes (s.viewW ft) 4) s)
/-- LDC1 (R351). -/
def execLdc1 (ft base : Reg) (offset : BitVec 16) (s : State) : Result :=
  checkCU1 s (complete (s.countRead.setViewD ft (s.memValue 64 8 (effectiveAddress s base offset))))
/-- SDC1 (R352). -/
def execSdc1 (ft base : Reg) (offset : BitVec 16) (s : State) : Result :=
  checkCU1 s (storeBytes (effectiveAddress s base offset) (beBytes (s.viewD ft) 8) s)

/-- BC1F (R353). -/
def execBc1f (offset : BitVec 16) (s : State) : Result :=
  controlTransfer s (checkCU1 s (branchIf (!fcsrC s.fcsr) (branchTarget s offset) s))
/-- BC1T (R354). -/
def execBc1t (offset : BitVec 16) (s : State) : Result :=
  controlTransfer s (checkCU1 s (branchIf (fcsrC s.fcsr) (branchTarget s offset) s))
/-- BC1FL (R355). -/
def execBc1fl (offset : BitVec 16) (s : State) : Result :=
  controlTransfer s (checkCU1 s (branchLikelyIf (!fcsrC s.fcsr) (branchTarget s offset) s))
/-- BC1TL (R356). -/
def execBc1tl (offset : BitVec 16) (s : State) : Result :=
  controlTransfer s (checkCU1 s (branchLikelyIf (fcsrC s.fcsr) (branchTarget s offset) s))

end Sys2Proof.Machine
end

