-- ==== Sys2Proof/Machine/MulDiv.lean ====
section
/-! DEFINITION. Multiply, divide and the HI/LO moves (42_muldiv.md). -/

namespace Sys2Proof.Machine

/-- An instruction that writes HI and LO and completes. -/
def writeHiLo (hi lo : Word) (s : State) : Result := complete ((s.setHi hi).setLo lo)

/-- The quotient and remainder DIV leaves in LO and HI (R232, decision D25). -/
def divSigned (a b : Word) : Word × Word :=
  if b = 0#32 then ((if 0 ≤ a.toInt then 0xFFFFFFFF#32 else 0x00000001#32), a)
  else if a.toInt = -2 ^ 31 ∧ b.toInt = -1 then (0x80000000#32, 0x00000000#32)
  else (BitVec.ofInt 32 (a.toInt.tdiv b.toInt), BitVec.ofInt 32 (a.toInt.tmod b.toInt))

/-- The quotient and remainder DIVU leaves in LO and HI (R233, decision D25). -/
def divUnsigned (a b : Word) : Word × Word :=
  if b = 0#32 then (0xFFFFFFFF#32, a)
  else (BitVec.ofNat 32 (a.toNat / b.toNat), BitVec.ofNat 32 (a.toNat % b.toNat))

/-- MULT (R230): the exact signed product, HI its upper half. -/
def execMult (rs rt : Reg) (s : State) : Result :=
  let p : DWord := BitVec.ofInt 64 ((s.x rs).toInt * (s.x rt).toInt)
  writeHiLo (p.extractLsb' 32 32) (p.extractLsb' 0 32) s
/-- MULTU (R231): the exact unsigned product. -/
def execMultu (rs rt : Reg) (s : State) : Result :=
  let p : DWord := BitVec.ofNat 64 ((s.x rs).toNat * (s.x rt).toNat)
  writeHiLo (p.extractLsb' 32 32) (p.extractLsb' 0 32) s
/-- DIV (R232). -/
def execDiv (rs rt : Reg) (s : State) : Result :=
  let qr := divSigned (s.x rs) (s.x rt)
  writeHiLo qr.2 qr.1 s
/-- DIVU (R233). -/
def execDivu (rs rt : Reg) (s : State) : Result :=
  let qr := divUnsigned (s.x rs) (s.x rt)
  writeHiLo qr.2 qr.1 s

/-- MFHI (R234). -/
def execMfhi (rd : Reg) (s : State) : Result := writeGpr rd s.cpu.hi s
/-- MTHI (R235). -/
def execMthi (rs : Reg) (s : State) : Result := complete (s.setHi (s.x rs))
/-- MFLO (R236). -/
def execMflo (rd : Reg) (s : State) : Result := writeGpr rd s.cpu.lo s
/-- MTLO (R237). -/
def execMtlo (rs : Reg) (s : State) : Result := complete (s.setLo (s.x rs))

end Sys2Proof.Machine
end

