-- ==== Sys2Proof/Machine/System.lean ====
section
/-! DEFINITION. System, trap and CP0 instructions, and the encodings that only raise (45_system.md). -/

namespace Sys2Proof.Machine

/-- A reserved instruction: RI and nothing else (R323). -/
def reservedInstruction (s : State) : Result := raise .reservedInstruction s

/-- A COP2-space instruction: CpU with `ce = 2`, whatever `Status.CU2` holds (R326). -/
def coprocessor2Unusable (s : State) : Result := raiseWith .coprocessorUnusable 2#2 s

/-- SYSCALL (R310); the code is ignored. -/
def execSyscall (s : State) : Result := raise .syscall s
/-- BREAK (R311); the code is ignored. -/
def execBrk (s : State) : Result := raise .breakpoint s

/-- TGE (R312); the code is ignored. -/
def execTge (rs rt : Reg) (s : State) : Result := trapIf (!(s.x rs).slt (s.x rt)) s
/-- TGEU (R313); the code is ignored. -/
def execTgeu (rs rt : Reg) (s : State) : Result := trapIf (!(s.x rs).ult (s.x rt)) s
/-- TLT (R314); the code is ignored. -/
def execTlt (rs rt : Reg) (s : State) : Result := trapIf ((s.x rs).slt (s.x rt)) s
/-- TLTU (R315); the code is ignored. -/
def execTltu (rs rt : Reg) (s : State) : Result := trapIf ((s.x rs).ult (s.x rt)) s
/-- TEQ (R316); the code is ignored. -/
def execTeq (rs rt : Reg) (s : State) : Result := trapIf (s.x rs == (s.x rt)) s
/-- TNE (R317); the code is ignored. -/
def execTne (rs rt : Reg) (s : State) : Result := trapIf (s.x rs != (s.x rt)) s
/-- TGEI (R327). -/
def execTgei (rs : Reg) (imm : BitVec 16) (s : State) : Result :=
  trapIf (!(s.x rs).slt (sext imm)) s
/-- TGEIU (R328). -/
def execTgeiu (rs : Reg) (imm : BitVec 16) (s : State) : Result :=
  trapIf (!(s.x rs).ult (sext imm)) s
/-- TLTI (R329). -/
def execTlti (rs : Reg) (imm : BitVec 16) (s : State) : Result :=
  trapIf ((s.x rs).slt (sext imm)) s
/-- TLTIU (R330). -/
def execTltiu (rs : Reg) (imm : BitVec 16) (s : State) : Result :=
  trapIf ((s.x rs).ult (sext imm)) s
/-- TEQI (R331). -/
def execTeqi (rs : Reg) (imm : BitVec 16) (s : State) : Result :=
  trapIf (s.x rs == (sext imm)) s
/-- TNEI (R332). -/
def execTnei (rs : Reg) (imm : BitVec 16) (s : State) : Result :=
  trapIf (s.x rs != (sext imm)) s

/-- MFC0 (R319): CP0 is always usable. -/
def execMfc0 (rt rd : Reg) (s : State) : Result := writeGpr rt (s.cp0 rd) s
/-- MTC0 (R320): all 32 bits are written. -/
def execMtc0 (rt rd : Reg) (s : State) : Result := complete (s.setCp0 rd (s.x rt))
/-- ERET (R322): a control-transfer instruction without a delay slot. -/
def execEret (s : State) : Result :=
  controlTransfer s (finish (.jump (exceptionReturn s).1) (exceptionReturn s).2)

/-! ### Encodings that only raise -/

/-- TLBR (R324): there is no TLB. -/
def execTlbr (s : State) : Result := reservedInstruction s
/-- TLBWI (R324): there is no TLB. -/
def execTlbwi (s : State) : Result := reservedInstruction s
/-- TLBWR (R324): there is no TLB. -/
def execTlbwr (s : State) : Result := reservedInstruction s
/-- TLBP (R324): there is no TLB. -/
def execTlbp (s : State) : Result := reservedInstruction s
/-- DADDI (R325): the general registers have 32 bits. -/
def execDaddi (s : State) : Result := reservedInstruction s
/-- DADDIU (R325): the general registers have 32 bits. -/
def execDaddiu (s : State) : Result := reservedInstruction s
/-- LDL (R325): the general registers have 32 bits. -/
def execLdl (s : State) : Result := reservedInstruction s
/-- LDR (R325): the general registers have 32 bits. -/
def execLdr (s : State) : Result := reservedInstruction s
/-- LWU (R325): the general registers have 32 bits. -/
def execLwu (s : State) : Result := reservedInstruction s
/-- SDL (R325): the general registers have 32 bits. -/
def execSdl (s : State) : Result := reservedInstruction s
/-- SDR (R325): the general registers have 32 bits. -/
def execSdr (s : State) : Result := reservedInstruction s
/-- LLD (R325): the general registers have 32 bits. -/
def execLld (s : State) : Result := reservedInstruction s
/-- LD (R325): the general registers have 32 bits. -/
def execLd (s : State) : Result := reservedInstruction s
/-- SCD (R325): the general registers have 32 bits. -/
def execScd (s : State) : Result := reservedInstruction s
/-- SD (R325): the general registers have 32 bits. -/
def execSd (s : State) : Result := reservedInstruction s
/-- DSLLV (R325): the general registers have 32 bits. -/
def execDsllv (s : State) : Result := reservedInstruction s
/-- DSRLV (R325): the general registers have 32 bits. -/
def execDsrlv (s : State) : Result := reservedInstruction s
/-- DSRAV (R325): the general registers have 32 bits. -/
def execDsrav (s : State) : Result := reservedInstruction s
/-- DADD (R325): the general registers have 32 bits. -/
def execDadd (s : State) : Result := reservedInstruction s
/-- DADDU (R325): the general registers have 32 bits. -/
def execDaddu (s : State) : Result := reservedInstruction s
/-- DSUB (R325): the general registers have 32 bits. -/
def execDsub (s : State) : Result := reservedInstruction s
/-- DSUBU (R325): the general registers have 32 bits. -/
def execDsubu (s : State) : Result := reservedInstruction s
/-- DMULT (R325): the general registers have 32 bits. -/
def execDmult (s : State) : Result := reservedInstruction s
/-- DMULTU (R325): the general registers have 32 bits. -/
def execDmultu (s : State) : Result := reservedInstruction s
/-- DDIV (R325): the general registers have 32 bits. -/
def execDdiv (s : State) : Result := reservedInstruction s
/-- DDIVU (R325): the general registers have 32 bits. -/
def execDdivu (s : State) : Result := reservedInstruction s
/-- DSLL (R325): the general registers have 32 bits. -/
def execDsll (s : State) : Result := reservedInstruction s
/-- DSRL (R325): the general registers have 32 bits. -/
def execDsrl (s : State) : Result := reservedInstruction s
/-- DSRA (R325): the general registers have 32 bits. -/
def execDsra (s : State) : Result := reservedInstruction s
/-- DSLL32 (R325): the general registers have 32 bits. -/
def execDsll32 (s : State) : Result := reservedInstruction s
/-- DSRL32 (R325): the general registers have 32 bits. -/
def execDsrl32 (s : State) : Result := reservedInstruction s
/-- DSRA32 (R325): the general registers have 32 bits. -/
def execDsra32 (s : State) : Result := reservedInstruction s
/-- DMFC0 (R325): the general registers have 32 bits. -/
def execDmfc0 (s : State) : Result := reservedInstruction s
/-- DMTC0 (R325): the general registers have 32 bits. -/
def execDmtc0 (s : State) : Result := reservedInstruction s
/-- DMFC1 (R325): CheckCU1, then RI. -/
def execDmfc1 (s : State) : Result := checkCU1 s (reservedInstruction s)
/-- DMTC1 (R325): CheckCU1, then RI. -/
def execDmtc1 (s : State) : Result := checkCU1 s (reservedInstruction s)
/-- COP2 (R326): no coprocessor 2, no memory access. -/
def execCop2 (s : State) : Result := coprocessor2Unusable s
/-- LWC2 (R326): no coprocessor 2, no memory access. -/
def execLwc2 (s : State) : Result := coprocessor2Unusable s
/-- LDC2 (R326): no coprocessor 2, no memory access. -/
def execLdc2 (s : State) : Result := coprocessor2Unusable s
/-- SWC2 (R326): no coprocessor 2, no memory access. -/
def execSwc2 (s : State) : Result := coprocessor2Unusable s
/-- SDC2 (R326): no coprocessor 2, no memory access. -/
def execSdc2 (s : State) : Result := coprocessor2Unusable s

end Sys2Proof.Machine
end

