-- ==== Sys2Proof/Machine/Cycle.lean ====
section
/-! DEFINITION. The controller cycle (40_controller.md R143), the engine contract (R141) and the checks `run`
makes after each cycle (R156). -/

namespace Sys2Proof.Machine

/-- The exception of a word that is no instruction (45_system.md R323, 47_fpu_arith.md R361). -/
def execRejected (r : Rejection) (s : State) : Result :=
  match r with
  | .reservedInstruction => reservedInstruction s
  | .unimplementedCop1 => unimplementedCop1 s

/-- `execute_one(w)` (R141): steps 3 to 5 of R143, decode, execute and sequence. -/
def executeOne (w : Word) (s : State) : Result :=
  match decode w with
  | .ok i => exec i s
  | .error r => execRejected r s

/-- Step 1 of R143: a pending host exception is taken first, else an interrupt (60_exceptions.md R414). -/
def boundary (s : State) : State :=
  match s.ctl.pendingExc with
  | some p => trapEntry p.code p.ce { s with ctl := { s.ctl with pendingExc := none } }
  | none => if s.interruptPending then trapEntry Exception.interrupt.code 0#2 s else s

/-- Whether a cycle can run: the precondition whose failure is FATAL (70_reset_and_hazards.md R444). -/
def State.ready (s : State) : Bool := s.ctl.initialized && s.mem.memReady

/-- `Cycle()` (R143): the boundary, the fetch (one counted read, R88), then `execute_one`. -/
def cycle (s : State) : Result :=
  if s.ready then
    let b := boundary s
    executeOne b.fetchWord b.countRead
  else .fault .fatal

/-- `execute_many(n)` (R141): `n` cycles with nothing between them. -/
def executeMany : Nat → State → Result
  | 0, s => .next s
  | n + 1, s =>
    match cycle s with
    | .next t => executeMany n t
    | .fault r => .fault r
    | .refused r => .refused r

/-- `has_breakpoint(a)` (R168): false beyond the table. -/
def State.hasBreakpoint (s : State) (a : Word) : Bool :=
  a.toNat < Config.bpTableSize && s.ctl.bp.contains a.toNat

/-- The run ceiling is reached (R156). -/
def ceilingReached (ceiling : Option Nat) (runCount : Nat) : Bool :=
  match ceiling with
  | none => false
  | some n => n ≤ runCount

/-- The return of `run` (R156, R178): outside Running the call in progress, if there is one, returns, after the
operations that returned before it in the same step (log entry 5). -/
def State.returnRun (before : List HostReply) (s : State) : State :=
  { s with
    runCall := if s.ctl.runState = .running then s.runCall else none
    replies :=
      match s.runCall with
      | none => s.replies
      | some r => if s.ctl.runState = .running then s.replies else before ++ [r] }

/-- The checks of `run` after each cycle (R156, R169): it counts it, then pauses at a breakpoint or stops at the
ceiling. -/
def runChecks (ceiling : Option Nat) (s : State) : State :=
  { s with ctl := { s.ctl with
      runCount := s.ctl.runCount + 1
      runState :=
        if s.hasBreakpoint s.cpu.pc then .paused
        else if ceilingReached ceiling (s.ctl.runCount + 1) then .stopped
        else s.ctl.runState } }

/-- What `run` does after each cycle (R156): the checks, then it returns if they ended the run. -/
def afterCycle (ceiling : Option Nat) (s : State) : State := (runChecks ceiling s).returnRun []

/-- One turn of the loop of `run` (R156, R157; log entry 3). -/
def runTurn (ceiling : Option Nat) (s : State) : Result :=
  match cycle s with
  | .next t => .next (afterCycle ceiling t)
  | .fault r => .fault r
  | .refused r => .refused r

/-- The cycle of `step()` and its return (R160; log entry 4): no breakpoint, ceiling or `run_count`. -/
def stepTurn (s : State) : Result :=
  match cycle s with
  | .next t =>
    .next { t with ctl := { t.ctl with runState := t.ctl.stepReturn }, replies := [.flag true] }
  | .fault r => .fault r
  | .refused r => .refused r

/-- What the controller does when the host lets it (R155): a turn of `run` in Running, the cycle of `step()` in
Stepping, nothing in Stopped and Paused (log entry 6). -/
def controllerTurn (s : State) : Result :=
  match s.ctl.runState with
  | .running => runTurn Config.runCeiling s
  | .stepping => stepTurn s
  | .stopped => .next s
  | .paused => .next s

end Sys2Proof.Machine
end

