-- ==== Sys2Proof/Machine/HostOps.lean ====
section
/-! DEFINITION. The host operations (40_controller.md R176), each on the state between two cycles (R177). -/

namespace Sys2Proof.Machine

/-- How a host operation goes: it returns a reply and leaves a state; it is entered and returns in a later step, once
its cycles are done (`run`, R178; `step`, R160); or FATAL (70_reset_and_hazards.md R444). -/
inductive HostResult where
  | ok (r : HostReply) (s : State)
  | entered (s : State)
  | fatal
  deriving DecidableEq, Repr

/-! ### Lifecycle (70_reset_and_hazards.md section 1) -/

/-- Memory Subsystem initialisation (10_state.md R43). -/
def hostMemInit (s : State) : HostResult := .ok .done { s with mem := MemSys.reset }

/-- The host operation of R440: all of the Processor State and the controller's state; FATAL without the Memory
Subsystem. -/
def hostInitialize (s : State) : HostResult :=
  if s.mem.memReady then .ok .done { s with cpu := Cpu.reset, ctl := Ctl.reset } else .fatal

/-- `shutdown()` (R442). -/
def hostShutdown (s : State) : HostResult :=
  .ok .done { s with ctl := { s.ctl with runState := .stopped, initialized := false } }

/-! ### The run-state machine (40_controller.md section 4) -/

/-- `run_state <- r`. -/
def State.setRunState (s : State) (r : RunState) : State := { s with ctl := { s.ctl with runState := r } }

/-- The entry of `run()` (R156) by a call that returns `answer`: its cycles are the turns of the Running state (R157),
and it returns when the run ends (R176, R178; `State.returnRun`). Already Running, it returns at once. -/
def enterRun (answer : HostReply) (s : State) : HostResult :=
  if s.ready then
    if s.ctl.runState = .running then .ok answer s
    else .entered { s with ctl := { s.ctl with runState := .running, runCount := 0 }, runCall := some answer }
  else .fatal

/-- `run()` (R156). -/
def hostRun (s : State) : HostResult := enterRun .done s

/-- `pause()` (R158). -/
def hostPause (s : State) : HostResult :=
  .ok .done (if s.ctl.runState = .running then s.setRunState .paused else s)

/-- `stop()` (R159). -/
def hostStop (s : State) : HostResult := .ok .done (s.setRunState .stopped)

/-- The entry of `step()` (R160): rejected unless Stopped or Paused; its cycle is the turn of the Stepping state
(log entry 4), which returns true. -/
def hostStep (s : State) : HostResult :=
  if s.ready then
    match s.ctl.runState with
    | .stopped => .entered { s with ctl := { s.ctl with runState := .stepping, stepReturn := .stopped } }
    | .paused => .entered { s with ctl := { s.ctl with runState := .stepping, stepReturn := .paused } }
    | .running => .ok (.flag false) s
    | .stepping => .ok (.flag false) s
  else .fatal

/-- `set_run_state(r)` (R161): `run()`, with the answer true, for Running; rejected for Stepping. -/
def hostSetRunState (r : RunState) (s : State) : HostResult :=
  match r with
  | .running => enterRun (.flag true) s
  | .paused => .ok (.flag true) (s.setRunState .paused)
  | .stopped => .ok (.flag true) (s.setRunState .stopped)
  | .stepping => .ok (.flag false) s

/-- `set_execution_mode(m)` (R163). -/
def hostSetExecMode (m : ExecMode) (s : State) : HostResult :=
  .ok .done { s with ctl := { s.ctl with execMode := m } }

/-! ### Memory (20_memory.md) -/

/-- `read8` to `read64` (R89): the value at `va`, one counted read. -/
def hostRead (w n : Nat) (reply : BitVec w → HostReply) (va : Word) (s : State) : HostResult :=
  .ok (reply (s.memValue w n va)) s.countRead

/-- `write8` to `write64` (R89): the bytes from `va` on, one counted write. -/
def hostWrite (va : Word) (bs : List Byte) (s : State) : HostResult := .ok .done (s.memWrite va bs)

/-- A valid triple (R67). -/
def Mapping.valid (m : Mapping) : Bool :=
  1 ≤ m.size.toNat && m.vbase.toNat + m.size.toNat ≤ 2 ^ 32 && m.pbase.toNat + m.size.toNat ≤ 2 ^ 32

/-- The virtual ranges of two mappings overlap, as integers (R65). -/
def Mapping.overlaps (m n : Mapping) : Bool :=
  m.vbase.toNat < n.vbase.toNat + n.size.toNat && n.vbase.toNat < m.vbase.toNat + m.size.toNat

/-- `maps <- ms`. -/
def State.setMaps (s : State) (ms : List Mapping) : State := { s with mem := { s.mem with maps := ms } }

/-- `map(vbase, pbase, size)` (R65). -/
def hostMap (m : Mapping) (s : State) : HostResult :=
  if m.valid && !s.mem.maps.any m.overlaps then .ok (.flag true) (s.setMaps (s.mem.maps ++ [m]))
  else .ok (.flag false) s

/-- The list without its first mapping at this virtual base (R66). -/
def removeMapping (vbase : Word) : List Mapping → List Mapping
  | [] => []
  | m :: ms => if m.vbase = vbase then ms else m :: removeMapping vbase ms

/-- `unmap(vbase)` (R66). -/
def hostUnmap (vbase : Word) (s : State) : HostResult :=
  if s.mem.maps.any (fun m => m.vbase = vbase) then
    .ok (.flag true) (s.setMaps (removeMapping vbase s.mem.maps))
  else .ok (.flag false) s

/-- The mapping `load_rom` installs for an image (R80). -/
def romMapping (image : List Byte) : Mapping where
  vbase := BitVec.ofNat 32 Config.romVbase
  pbase := BitVec.ofNat 32 Config.romPbase
  size  := BitVec.ofNat 32 image.length

/-- `load_rom(image)` (R80): it replaces the image and its mapping, or changes nothing. -/
def hostLoadRom (image : List Byte) (s : State) : HostResult :=
  let kept := removeMapping (BitVec.ofNat 32 Config.romVbase) s.mem.maps
  if image.length = 0 || Config.romMaxSize < image.length || kept.any (romMapping image).overlaps then
    .ok (.flag false) s
  else
    .ok (.flag true)
      { s with mem := { s.mem with rom := image, romLoaded := true, maps := kept ++ [romMapping image] } }

/-- The Memory Subsystem's `reset_statistics` (R95). -/
def hostMemResetStatistics (s : State) : HostResult :=
  .ok .done { s with mem := { s.mem with memReads := 0#64, memWrites := 0#64 } }

/-! ### Breakpoints (40_controller.md section 6) -/

/-- The set with `a` in it, rising. -/
def bpInsert (a : Nat) : List Nat → List Nat
  | [] => [a]
  | b :: bs => if a < b then a :: b :: bs else if a = b then b :: bs else b :: bpInsert a bs

/-- `set_breakpoint(a)` (R167). -/
def hostSetBreakpoint (a : Word) (s : State) : HostResult :=
  if a.toNat < Config.bpTableSize then
    .ok (.flag true) { s with ctl := { s.ctl with bp := bpInsert a.toNat s.ctl.bp } }
  else .ok (.flag false) s

/-- `clear_breakpoint(a)` (R168). -/
def hostClearBreakpoint (a : Word) (s : State) : HostResult :=
  if a.toNat < Config.bpTableSize then
    .ok (.flag true) { s with ctl := { s.ctl with bp := s.ctl.bp.filter (· ≠ a.toNat) } }
  else .ok (.flag false) s

/-! ### The Processor State and exceptions (40_controller.md section 7) -/

/-- The controller's `reset_statistics` (R175). -/
def hostResetStatistics (s : State) : HostResult :=
  .ok .done { s with ctl := { s.ctl with cycles := 0#64, instructions := 0#64 } }

/-- A register index the host names, if it exists: 0 to 31 (R171). -/
def hostIndex (i : Int) : Option Reg :=
  if h : 0 ≤ i ∧ i < 32 then some ⟨i.toNat, by omega⟩ else none

/-- `read_cp0(i)` (R171). -/
def hostReadCp0 (i : Int) (s : State) : HostResult :=
  match hostIndex i with
  | some r => .ok (.word (s.cp0 r)) s
  | none => .ok (.flag false) s

/-- `write_cp0(i, v)` (R171): the whole register. -/
def hostWriteCp0 (i : Int) (v : Word) (s : State) : HostResult :=
  match hostIndex i with
  | some r => .ok (.flag true) (s.setCp0 r v)
  | none => .ok (.flag false) s

/-- `read_cp1(i)` (R171): the 64-bit FPU register (decision D45). -/
def hostReadCp1 (i : Int) (s : State) : HostResult :=
  match hostIndex i with
  | some r => .ok (.dword (s.fpr r)) s
  | none => .ok (.flag false) s

/-- `write_cp1(i, v)` (R171). -/
def hostWriteCp1 (i : Int) (v : DWord) (s : State) : HostResult :=
  match hostIndex i with
  | some r => .ok (.flag true) (s.setFpr r v)
  | none => .ok (.flag false) s

/-- `raise_exception(code, ce)` (R172): rejected if one is pending or an argument is out of range. -/
def hostRaiseException (code ce : Int) (s : State) : HostResult :=
  if s.ctl.pendingExc = none ∧ 0 ≤ code ∧ code ≤ 31 ∧ 0 ≤ ce ∧ ce ≤ 3 then
    .ok (.flag true)
      { s with ctl := { s.ctl with
          pendingExc := some { code := BitVec.ofInt 5 code, ce := BitVec.ofInt 2 ce } } }
  else .ok (.flag false) s

/-- `handle_exception()` (R173): trap entry at once, no cycle counted. -/
def hostHandleException (s : State) : HostResult :=
  match s.ctl.pendingExc with
  | some p => .ok (.flag true) (trapEntry p.code p.ce { s with ctl := { s.ctl with pendingExc := none } })
  | none => .ok (.flag false) s

/-! ### All of them -/

/-- The operation's effect and reply (R176). -/
def hostOp (op : HostOp) (s : State) : HostResult :=
  match op with
  | .memInit => hostMemInit s
  | .init => hostInitialize s
  | .shutdown => hostShutdown s
  | .run => hostRun s
  | .pause => hostPause s
  | .stop => hostStop s
  | .step => hostStep s
  | .getRunState => .ok (.runState s.ctl.runState) s
  | .setRunState r => hostSetRunState r s
  | .getExecMode => .ok (.execMode s.ctl.execMode) s
  | .setExecMode m => hostSetExecMode m s
  | .read8 va => hostRead 8 1 .byte va s
  | .read16 va => hostRead 16 2 .half va s
  | .read32 va => hostRead 32 4 .word va s
  | .read64 va => hostRead 64 8 .dword va s
  | .write8 va v => hostWrite va (beBytes v 1) s
  | .write16 va v => hostWrite va (beBytes v 2) s
  | .write32 va v => hostWrite va (beBytes v 4) s
  | .write64 va v => hostWrite va (beBytes v 8) s
  | .map m => hostMap m s
  | .unmap vbase => hostUnmap vbase s
  | .loadRom image => hostLoadRom image s
  | .isRomLoaded => .ok (.flag s.mem.romLoaded) s
  | .isValidAddress va => .ok (.flag (s.mem.region va ≠ .unmapped)) s
  | .getRegionForAddress va => .ok (.region (s.mem.region va)) s
  | .memResetStatistics => hostMemResetStatistics s
  | .setBreakpoint a => hostSetBreakpoint a s
  | .clearBreakpoint a => hostClearBreakpoint a s
  | .hasBreakpoint a => .ok (.flag (s.hasBreakpoint a)) s
  | .getCycles => .ok (.dword s.ctl.cycles) s
  | .getInstructions => .ok (.dword s.ctl.instructions) s
  | .resetStatistics => hostResetStatistics s
  | .readCp0 i => hostReadCp0 i s
  | .writeCp0 i v => hostWriteCp0 i v s
  | .readCp1 i => hostReadCp1 i s
  | .writeCp1 i v => hostWriteCp1 i v s
  | .raiseException code ce => hostRaiseException code ce s
  | .handleException => hostHandleException s

/-- A host move as a step: what it returns is recorded (log entry 5), and if it ends the run in progress `run` returns
after it (R156, R178); FATAL is a fault. -/
def hostCall (op : HostOp) (s : State) : Result :=
  match hostOp op s with
  | .ok r t => .next ({ t with replies := [r] }.returnRun [r])
  | .entered t => .next t
  | .fatal => .fault .fatal

/-- Who moves next (R157, R177; log entries 2 and 4): in Stepping the controller; else the host if it has a move
pending; else the controller. DESIGN CHOICE (log entry 22): so too before the first `initialize`, where R443 leaves
`run_state` at any value; Stepping, and Running with no host move pending, are FATAL there (R444), and in Stepping no
host move is reached, `initialize` among them. Safe: a stop, in states that no run from `State.reset` reaches. -/
def machineTurn (s : State) : Result :=
  match s.ctl.runState, s.agenda with
  | .stepping, _ => controllerTurn s
  | _, .call op :: rest => hostCall op { s with agenda := rest }
  | _, .yield :: rest => controllerTurn { s with agenda := rest }
  | _, [] => controllerTurn s

/-! ### Placing a word where the next cycle fetches (log entry 1) -/

/-- The address the next cycle fetches at: `pc` after the boundary (R143). -/
def State.fetchAddress (s : State) : Word := (boundary s).cpu.pc

/-- The word written where the next cycle fetches, uncounted. -/
def State.placeWord (s : State) (w : Word) : State :=
  { s with mem := s.mem.writeBytes s.fetchAddress (beBytes w 4) }

/-- The state with the word placed; if memory at the fetch address does not take it (ROM, MMIO, unmapped), the
mappings and `pc` go back to their reset values first. -/
def State.placeForFetch (s : State) (w : Word) : State :=
  let here := s.placeWord w
  if (boundary here).fetchWord = w then here
  else ({ s with mem := { s.mem with maps := initialMaps } }.setPc Config.resetPc).placeWord w

/-- The host has brought the block up, has no move pending and has called `run`. -/
def State.inRun (s : State) : State :=
  { s with
    ctl := { s.ctl with initialized := true, runState := .running }
    mem := { s.mem with memReady := true }
    agenda := []
    runCall := some .done }

end Sys2Proof.Machine
end

