-- ==== Sys2Proof/Machine/Step.lean ====
section
/-! DEFINITION. One step of the block (40_controller.md R157): one controller cycle with the checks after it, or
one host operation. -/

namespace Sys2Proof.Machine

/-- One step. -/
def step : State → Host.Outcome State Fault Refusal := machineTurn

/-- The state in which the very next step runs the word as the block's next instruction: the host has called
`run` and the word lies where the cycle fetches (log entry 1). -/
def State.withFetchWord (s : State) (nbits w : Nat) : State :=
  s.inRun.placeForFetch (BitVec.ofNat 32 (w % 2 ^ nbits))

end Sys2Proof.Machine
end

