-- ==== Sys2Proof/Safety.lean ====
section
/-! DEFINITION. The terms the claims are stated in: the invariant, what an instruction leaves unchanged, how a
cycle can end, which word stands for which instruction, and what it means for an FPU result to be correctly
rounded. -/

namespace Sys2Proof.Machine

/-! ### The invariant -/

/-- Every listed cell is a byte of an array of `n` bytes. -/
def Memory.fits (m : Memory) (n : Nat) : Prop := ∀ c ∈ m, c.1 < n

/-- What every step keeps: the shape of the state (10_state.md R20, R39, R42; 20_memory.md R65, R67, R76, R80;
40_controller.md R150, R160). -/
structure Inv (s : State) : Prop where
  /-- The cell of `x[0]` holds 0 (R20). -/
  x0 : s.cpu.gpr[0] = 0#32
  /-- `dram` is a canonical list of its own bytes (R42). -/
  dram : Memory.wf s.mem.dram ∧ s.mem.dram.fits Config.dramSize
  /-- `sram` is a canonical list of its own bytes (R42). -/
  sram : Memory.wf s.mem.sram ∧ s.mem.sram.fits Config.sramSize
  /-- The image fits, and is loaded exactly when it is not empty (R42, R80). -/
  rom : s.mem.rom.length ≤ Config.romMaxSize ∧ (s.mem.romLoaded = true ↔ s.mem.rom ≠ [])
  /-- Every mapping is valid and no two overlap (R65, R67, R80). -/
  maps : (∀ m ∈ s.mem.maps, m.valid = true) ∧ s.mem.maps.Pairwise (fun m n => m.overlaps n = false)
  /-- The read-only MMIO slots hold their initial values (R76). -/
  slots : s.mem.mmio[0] = Config.mmioInit 0 ∧ s.mem.mmio[7] = Config.mmioInit 7
  /-- The breakpoints lie in the table, each listed once (R39). -/
  bp : s.ctl.bp.Pairwise (· < ·) ∧ ∀ a ∈ s.ctl.bp, a < Config.bpTableSize
  /-- `cycles = instructions` (R150). -/
  counters : s.ctl.cycles = s.ctl.instructions
  /-- `step()` returns to Stopped or Paused (R160). -/
  stepReturn : s.ctl.stepReturn = .stopped ∨ s.ctl.stepReturn = .paused
  /-- A call of `run()` is in progress exactly in Running (R156, R157). -/
  runCall : s.ctl.runState = .running ↔ s.runCall ≠ none

/-- DRAM and SRAM are canonical lists. -/
def MemoryOk (s : State) : Prop := Memory.wf s.mem.dram ∧ Memory.wf s.mem.sram

/-! ### What an instruction leaves unchanged -/

/-- The parts of the state the rule of an instruction can name as written, beside `pc`, `delay` and the two
counters of the controller. -/
inductive Part where
  | gpr (r : Reg)
  | hi
  | lo
  | llbit
  | cp0 (r : Reg)
  | fpr (r : Reg)
  | fcr (r : Reg)
  /-- The bytes of DRAM and SRAM and the MMIO slots. -/
  | bytes
  | memReads
  | memWrites
  deriving DecidableEq, Repr

/-- From `s` to `t` nothing changed but the listed parts, `pc`, `delay`, `cycles` and `instructions`. -/
structure OnlyChanges (parts : List Part) (s t : State) : Prop where
  gpr : ∀ r, .gpr r ∉ parts → t.x r = s.x r
  hi : .hi ∉ parts → t.cpu.hi = s.cpu.hi
  lo : .lo ∉ parts → t.cpu.lo = s.cpu.lo
  llbit : .llbit ∉ parts → t.cpu.llbit = s.cpu.llbit
  cp0 : ∀ r, .cp0 r ∉ parts → t.cp0 r = s.cp0 r
  fpr : ∀ r, .fpr r ∉ parts → t.fpr r = s.fpr r
  fcr : ∀ r, .fcr r ∉ parts → t.fcr r = s.fcr r
  /-- Every byte of memory, by the read of one byte. -/
  bytes : .bytes ∉ parts → ∀ a, t.mem.byteRead a = s.mem.byteRead a
  /-- Every byte of memory that no virtual address reaches either. -/
  cells : .bytes ∉ parts → t.mem.dram = s.mem.dram ∧ t.mem.sram = s.mem.sram ∧ t.mem.mmio = s.mem.mmio
  memReads : .memReads ∉ parts → t.mem.memReads = s.mem.memReads
  memWrites : .memWrites ∉ parts → t.mem.memWrites = s.mem.memWrites
  /-- ROM, the mappings and `mem_ready` (10_state.md R44). -/
  memory : t.mem.rom = s.mem.rom ∧ t.mem.romLoaded = s.mem.romLoaded ∧ t.mem.maps = s.mem.maps ∧
    t.mem.memReady = s.mem.memReady
  /-- The controller's state but its counters. -/
  control : t.ctl.runState = s.ctl.runState ∧ t.ctl.execMode = s.ctl.execMode ∧ t.ctl.bp = s.ctl.bp ∧
    t.ctl.pendingExc = s.ctl.pendingExc ∧ t.ctl.initialized = s.ctl.initialized ∧
    t.ctl.runCount = s.ctl.runCount ∧ t.ctl.stepReturn = s.ctl.stepReturn
  /-- The host's side. -/
  host : t.agenda = s.agenda ∧ t.runCall = s.runCall ∧ t.replies = s.replies

/-! ### How the cycle of an instruction ends -/

/-- The cycle counted one cycle and one instruction (40_controller.md R150). -/
def Counted (s t : State) : Prop :=
  t.ctl.cycles = s.ctl.cycles + 1#64 ∧ t.ctl.instructions = s.ctl.instructions + 1#64

/-- `pc` and `delay` after an instruction that ended with `Next` (R149): the target at the end of a taken slot,
else the next word. -/
def Advances (s t : State) : Prop :=
  t.cpu.delay = .none ∧
  match s.cpu.delay with
  | .taken target => t.cpu.pc = target
  | .none => t.cpu.pc = s.cpu.pc + 4#32
  | .notTaken => t.cpu.pc = s.cpu.pc + 4#32

/-- The instruction completes with `Next`: it answers a next state, in which only the listed parts changed. -/
def Completes (i : Instr) (s : State) (parts : List Part) (result : State → Prop) : Prop :=
  ∃ t, exec i s = .next t ∧ Advances s t ∧ Counted s t ∧ OnlyChanges parts s t ∧ result t

/-- It completes and writes one general register; a write of `x[0]` is discarded (10_state.md R20). -/
def WritesX (i : Instr) (s : State) (d : Reg) (v : Word) : Prop :=
  Completes i s [.gpr d] (fun t => t.x d = if d = 0 then 0#32 else v)

/-- It completes and does nothing. -/
def DoesNothing (i : Instr) (s : State) : Prop := Completes i s [] (fun _ => True)

/-- The instruction completes as a control transfer that leaves these values in `pc` and `delay`. -/
def Transfers (i : Instr) (s : State) (pc : Word) (delay : Delay) (parts : List Part) (result : State → Prop) :
    Prop :=
  ∃ t, exec i s = .next t ∧ t.cpu.pc = pc ∧ t.cpu.delay = delay ∧ Counted s t ∧ OnlyChanges parts s t ∧ result t

/-- What trap entry leaves in the exception registers, `pc` and `delay` (60_exceptions.md R404), from the state
`s` of the instruction that raised. -/
structure TrapTaken (code : BitVec 5) (ce : BitVec 2) (s t : State) : Prop where
  pc : t.cpu.pc = 0x80000180#32
  delay : t.cpu.delay = .none
  epc : t.epc =
    if statusEXL s.status then s.epc
    else if s.cpu.delay = .none then s.cpu.pc
    else s.cpu.pc - 4#32
  bd : causeBD t.cause = if statusEXL s.status then causeBD s.cause else decide (s.cpu.delay ≠ .none)
  excCode : causeExcCode t.cause = code
  ce : causeCE t.cause = ce
  causeRest : ∀ n, ¬ (2 ≤ n ∧ n ≤ 6) → ¬ (28 ≤ n ∧ n ≤ 29) → n ≠ 31 → bitAt t.cause n = bitAt s.cause n
  exl : statusEXL t.status = true
  statusRest : ∀ n, n ≠ 1 → bitAt t.status n = bitAt s.status n

/-- The registers trap entry may write (60_exceptions.md R402). -/
def trapParts : List Part := [.cp0 regEPC, .cp0 regCause, .cp0 regStatus]

/-- The cycle raised this exception and did nothing else (40_controller.md R151). -/
def RaisesOnly (r : Result) (s : State) (code : BitVec 5) (ce : BitVec 2) : Prop :=
  ∃ t, r = .next t ∧ TrapTaken code ce s t ∧ Counted s t ∧ OnlyChanges trapParts s t

/-- The cycle took an exception and did nothing else but, where the exception is FPE (code 15), write FCSR
(40_controller.md R151, 60_exceptions.md R403). -/
def TrapsPrecisely (s t : State) : Prop :=
  ∃ code ce, TrapTaken code ce s t ∧ Counted s t ∧
    (code = 15#5 → OnlyChanges (.fcr regFCSR :: trapParts) s t) ∧ (code ≠ 15#5 → OnlyChanges trapParts s t)

/-- The instruction raises this exception and does nothing else. -/
def Traps (i : Instr) (s : State) (code : BitVec 5) (ce : BitVec 2) : Prop := RaisesOnly (exec i s) s code ce

/-- An exact integer result: Ov, and nothing written, when it does not fit in signed 32 bits; else it is written
(41_alu.md R214). -/
def ChecksOverflow (i : Instr) (s : State) (d : Reg) (v : Int) : Prop :=
  (v < -2 ^ 31 ∨ 2 ^ 31 - 1 < v → Traps i s 12#5 0#2) ∧
  (-2 ^ 31 ≤ v → v ≤ 2 ^ 31 - 1 → WritesX i s d (BitVec.ofInt 32 v))

/-- A conditional trap: Tr if the condition holds, else nothing (45_system.md R318). -/
def TrapsIf (c : Prop) (i : Instr) (s : State) : Prop :=
  (c → Traps i s 13#5 0#2) ∧ (¬ c → DoesNothing i s)

/-- An FPU instruction: CpU with `ce = 1` when `Status.CU1 = 0` (46_fpu_move.md R344), else its effect. -/
def NeedsCU1 (i : Instr) (s : State) (effect : Prop) : Prop :=
  (statusCU1 s.status = false → Traps i s 11#5 1#2) ∧ (statusCU1 s.status = true → effect)

/-- The target of a PC-relative branch: the delay slot's address plus four times the signed offset
(43_branch.md R250). -/
def targetAt (s : State) (offset : BitVec 16) : Word :=
  s.cpu.pc + 4#32 + BitVec.ofInt 32 (4 * offset.toInt)

/-- The address of a load or store: the base plus the signed offset (44_loadstore.md R280). -/
def addressAt (s : State) (base : Reg) (offset : BitVec 16) : Word := s.x base + BitVec.ofInt 32 offset.toInt

/-- A branch outside a delay slot (40_controller.md R147 to R149): taken, the target follows the slot; not taken,
the slot follows, or, for a branch-likely, is skipped. -/
def Branches (c : Prop) (likely : Bool) (i : Instr) (s : State) (target : Word) (parts : List Part)
    (result : State → Prop) : Prop :=
  (c → Transfers i s (s.cpu.pc + 4#32) (.taken target) parts result) ∧
  (¬ c → if likely then Transfers i s (s.cpu.pc + 8#32) .none parts result
    else Transfers i s (s.cpu.pc + 4#32) .notTaken parts result)

/-- The control-transfer class (40_controller.md R142). -/
inductive ControlTransfer : Instr → Prop where
  | j (target : BitVec 26) : ControlTransfer (.j target)
  | jal (target : BitVec 26) : ControlTransfer (.jal target)
  | jr (rs : Reg) : ControlTransfer (.jr rs)
  | jalr (rd rs : Reg) : ControlTransfer (.jalr rd rs)
  | beq (rs rt : Reg) (offset : BitVec 16) : ControlTransfer (.beq rs rt offset)
  | bne (rs rt : Reg) (offset : BitVec 16) : ControlTransfer (.bne rs rt offset)
  | blez (rs : Reg) (offset : BitVec 16) : ControlTransfer (.blez rs offset)
  | bgtz (rs : Reg) (offset : BitVec 16) : ControlTransfer (.bgtz rs offset)
  | bltz (rs : Reg) (offset : BitVec 16) : ControlTransfer (.bltz rs offset)
  | bgez (rs : Reg) (offset : BitVec 16) : ControlTransfer (.bgez rs offset)
  | bltzal (rs : Reg) (offset : BitVec 16) : ControlTransfer (.bltzal rs offset)
  | bgezal (rs : Reg) (offset : BitVec 16) : ControlTransfer (.bgezal rs offset)
  | beql (rs rt : Reg) (offset : BitVec 16) : ControlTransfer (.beql rs rt offset)
  | bnel (rs rt : Reg) (offset : BitVec 16) : ControlTransfer (.bnel rs rt offset)
  | blezl (rs : Reg) (offset : BitVec 16) : ControlTransfer (.blezl rs offset)
  | bgtzl (rs : Reg) (offset : BitVec 16) : ControlTransfer (.bgtzl rs offset)
  | bltzl (rs : Reg) (offset : BitVec 16) : ControlTransfer (.bltzl rs offset)
  | bgezl (rs : Reg) (offset : BitVec 16) : ControlTransfer (.bgezl rs offset)
  | bltzall (rs : Reg) (offset : BitVec 16) : ControlTransfer (.bltzall rs offset)
  | bgezall (rs : Reg) (offset : BitVec 16) : ControlTransfer (.bgezall rs offset)
  | bc1f (offset : BitVec 16) : ControlTransfer (.bc1f offset)
  | bc1t (offset : BitVec 16) : ControlTransfer (.bc1t offset)
  | bc1fl (offset : BitVec 16) : ControlTransfer (.bc1fl offset)
  | bc1tl (offset : BitVec 16) : ControlTransfer (.bc1tl offset)
  | eret : ControlTransfer .eret

/-! ### Encodings -/

/-- The words with these bits under this mask are the instruction with the operands the function reads from the
word (the rows of spec/opcode_table.json). -/
def Encodes (pattern mask : Word) (i : Word → Instr) : Prop :=
  ∀ w : Word, w &&& mask = pattern → decode w = .ok (i w)

/-- The encodings marked RI (30_encoding.md R114 to R117; 45_system.md R323 lists them). -/
def ReservedWord (w : Word) : Prop :=
  opcodeOf w ∈ [0x13#6, 0x1C#6, 0x1D#6, 0x1E#6, 0x1F#6, 0x33#6, 0x3B#6] ∨
  (opcodeOf w = 0x00#6 ∧ functOf w ∈ [0x01#6, 0x05#6, 0x0A#6, 0x0B#6, 0x0E#6, 0x15#6, 0x28#6, 0x29#6, 0x35#6,
    0x37#6, 0x39#6, 0x3D#6]) ∨
  (opcodeOf w = 0x01#6 ∧ rtBits w ∈ [0x04#5, 0x05#5, 0x06#5, 0x07#5, 0x0D#5, 0x0F#5, 0x14#5, 0x15#5, 0x16#5, 0x17#5,
    0x18#5, 0x19#5, 0x1A#5, 0x1B#5, 0x1C#5, 0x1D#5, 0x1E#5, 0x1F#5]) ∨
  (opcodeOf w = 0x10#6 ∧ coBit w = false ∧ rsBits w ∉ [0#5, 1#5, 4#5, 5#5]) ∨
  (opcodeOf w = 0x10#6 ∧ coBit w = true ∧ functOf w ∉ [0x01#6, 0x02#6, 0x06#6, 0x08#6, 0x18#6])

/-- The COP1 words that 30_encoding.md R118 assigns to no instruction (47_fpu_arith.md R361). -/
def UnassignedCop1 (w : Word) : Prop :=
  opcodeOf w = 0x11#6 ∧
  (rsBits w ∉ [0#5, 1#5, 2#5, 4#5, 5#5, 6#5, 8#5, 16#5, 17#5, 20#5, 21#5] ∨
    (rsBits w = 16#5 ∧ 0x10#6 ≤ functOf w ∧ functOf w < 0x30#6 ∧ functOf w ∉ [0x21#6, 0x24#6, 0x25#6]) ∨
    (rsBits w = 17#5 ∧ 0x10#6 ≤ functOf w ∧ functOf w < 0x30#6 ∧ functOf w ∉ [0x20#6, 0x24#6, 0x25#6]) ∨
    (rsBits w = 20#5 ∧ functOf w ∉ [0x20#6, 0x21#6]) ∨
    (rsBits w = 21#5 ∧ functOf w ∉ [0x20#6, 0x21#6]))

/-- The words of FPU instructions: opcode COP1, LWC1, LDC1, SWC1 or SDC1 (46_fpu_move.md R340). -/
def FpuWord (w : Word) : Prop := opcodeOf w ∈ [0x11#6, 0x31#6, 0x35#6, 0x39#6, 0x3D#6]

/-! ### Bytes of memory -/

/-- Where a virtual byte address leads: an MMIO byte, or a physical byte (20_memory.md R70). -/
inductive Place where
  | mmio (va : Word)
  | phys (pa : Word)
  deriving DecidableEq, Repr

/-- The place of a virtual byte address. Two addresses of one place are aliases (R61). -/
def MemSys.placeOf (m : MemSys) (va : Word) : Place :=
  if isMmio va then .mmio va else .phys (translate m.maps va)

/-- Whether a write there is kept: DRAM, SRAM, or a slot 1 to 6 (R73, R78). -/
def Place.writable : Place → Bool
  | .mmio va => (mmioSlot va).any mmioWritable
  | .phys pa => inDram pa || inSram pa

/-- The `n` bytes at `va`, most significant first, are `v` (R84). -/
def MemSys.Holds {w : Nat} (m : MemSys) (va : Word) (n : Nat) (v : BitVec w) : Prop :=
  ∀ k, k < n → m.byteRead (va + BitVec.ofNat 32 k) = v.extractLsb' (8 * (n - 1 - k)) 8

/-- The `n` low bytes of `v` were written at `va`, most significant first, in ascending order (R85), and no other
byte changed. -/
structure MemSys.Stored {w : Nat} (m : MemSys) (va : Word) (n : Nat) (v : BitVec w) (m' : MemSys) : Prop where
  /-- A writable byte of the access reads as the last byte written to its place. -/
  hit : ∀ k, k < n → ∀ a, m.placeOf a = m.placeOf (va + BitVec.ofNat 32 k) →
    (m.placeOf a).writable = true →
    (∀ j, k < j → j < n → m.placeOf a ≠ m.placeOf (va + BitVec.ofNat 32 j)) →
    m'.byteRead a = v.extractLsb' (8 * (n - 1 - k)) 8
  /-- A byte outside the access reads as before. -/
  miss : ∀ a, (∀ k, k < n → m.placeOf a ≠ m.placeOf (va + BitVec.ofNat 32 k)) →
    m'.byteRead a = m.byteRead a
  /-- A byte that no write can change reads as before. -/
  readOnly : ∀ a, (m.placeOf a).writable = false → m'.byteRead a = m.byteRead a

/-- The instruction completes with one counted read whose value `read` is what the `n` bytes at `va` hold, and
writes `f read` to the register. -/
def LoadsX (i : Instr) (s : State) (d : Reg) (va : Word) (w n : Nat) (parts : List Part)
    (f : BitVec w → Word) (result : State → Prop) : Prop :=
  ∃ read : BitVec w, s.mem.Holds va n read ∧
    Completes i s ([.gpr d, .memReads] ++ parts) (fun t =>
      t.x d = (if d = 0 then 0#32 else f read) ∧ t.mem.memReads = s.mem.memReads + 1#64 ∧ result t)

/-- The instruction completes with one counted write of the `n` low bytes of `v` at `va`. -/
def StoresAt {w : Nat} (i : Instr) (s : State) (va : Word) (n : Nat) (v : BitVec w) (parts : List Part)
    (result : State → Prop) : Prop :=
  Completes i s ([.bytes, .memWrites] ++ parts) (fun t =>
    s.mem.Stored va n v t.mem ∧ t.mem.memWrites = s.mem.memWrites + 1#64 ∧ result t)

/-- The instruction completes with one counted read whose value `read` is what the `n` bytes at `va` hold, and the
FPU register becomes `f read`. -/
def LoadsFpr (i : Instr) (s : State) (d : Reg) (va : Word) (w n : Nat) (f : BitVec w → DWord) : Prop :=
  ∃ read : BitVec w, s.mem.Holds va n read ∧
    Completes i s [.fpr d, .memReads] (fun t =>
      t.fpr d = f read ∧ t.mem.memReads = s.mem.memReads + 1#64)

/-- The `n` bytes at `va` are distinct bytes that take writes. -/
def MemSys.Plain (m : MemSys) (va : Word) (n : Nat) : Prop :=
  ∀ k, k < n → (m.placeOf (va + BitVec.ofNat 32 k)).writable = true ∧
    ∀ j, j < n → j ≠ k → m.placeOf (va + BitVec.ofNat 32 j) ≠ m.placeOf (va + BitVec.ofNat 32 k)

/-! ### FPU results -/

/-- The instruction computed `cause` and, if nothing enabled is signalled, writes `v` to `fpr[fd]`
(47_fpu_arith.md R366): CpU when `Status.CU1 = 0`; FPE with `FCSR.Cause` written and nothing else; or completion
with Cause, sticky Flags and the destination. -/
def FpComputes (i : Instr) (s : State) (cause : FpCause) (fd : Reg) (v : DWord) : Prop :=
  (statusCU1 s.status = false → Traps i s 11#5 1#2) ∧
  (statusCU1 s.status = true → cause.traps (fcsrEnables s.fcsr) = true →
    ∃ t, exec i s = .next t ∧ TrapTaken 15#5 0#2 s t ∧ Counted s t ∧
      OnlyChanges (.fcr regFCSR :: trapParts) s t ∧
      (∀ n, bitAt t.fcsr n = if 12 ≤ n ∧ n ≤ 17 then cause.toBits.getLsbD (n - 12) else bitAt s.fcsr n)) ∧
  (statusCU1 s.status = true → cause.traps (fcsrEnables s.fcsr) = false →
    Completes i s [.fpr fd, .fcr regFCSR] (fun t =>
      t.fpr fd = v ∧
      (∀ n, bitAt t.fcsr n =
        if 12 ≤ n ∧ n ≤ 17 then cause.toBits.getLsbD (n - 12)
        else if 2 ≤ n ∧ n ≤ 6 then (bitAt s.fcsr n || cause.ieee.getLsbD (n - 2))
        else bitAt s.fcsr n)))

/-- The same for a compare, whose destination is `FCSR.C` (R384). -/
def FpCompares (i : Instr) (s : State) (cause : FpCause) (c : Bool) : Prop :=
  (statusCU1 s.status = false → Traps i s 11#5 1#2) ∧
  (statusCU1 s.status = true → cause.traps (fcsrEnables s.fcsr) = true →
    ∃ t, exec i s = .next t ∧ TrapTaken 15#5 0#2 s t ∧ Counted s t ∧
      OnlyChanges (.fcr regFCSR :: trapParts) s t ∧
      (∀ n, bitAt t.fcsr n = if 12 ≤ n ∧ n ≤ 17 then cause.toBits.getLsbD (n - 12) else bitAt s.fcsr n)) ∧
  (statusCU1 s.status = true → cause.traps (fcsrEnables s.fcsr) = false →
    Completes i s [.fcr regFCSR] (fun t =>
      ∀ n, bitAt t.fcsr n =
        if 12 ≤ n ∧ n ≤ 17 then cause.toBits.getLsbD (n - 12)
        else if 2 ≤ n ∧ n ≤ 6 then (bitAt s.fcsr n || cause.ieee.getLsbD (n - 2))
        else if n = 23 then c
        else bitAt s.fcsr n))

/-- `fpr[fd]` with bits 31:0 replaced (46_fpu_move.md R342). -/
def lowHalf (s : State) (fd : Reg) (v : Word) : DWord := (s.fpr fd).extractLsb' 32 32 ++ v

/-- The whole of `fpr[fd]` after a result in a format is written to it (R342). -/
def viewResult (s : State) (f : Format) (fd : Reg) (bits : Nat) : DWord :=
  match f with
  | .single => lowHalf s fd (BitVec.ofNat 32 bits)
  | .double => BitVec.ofNat 64 bits

/-! ### Correct rounding (47_fpu_arith.md R360, R362) -/

/-- The real number a value stands for, if it is finite. -/
noncomputable def FpValue.real : FpValue → Option ℝ
  | .nan _ => none
  | .inf _ => none
  | .finite neg mant exp => some ((if neg then -1 else 1) * (mant : ℝ) * (2 : ℝ) ^ exp)

/-- The extended real number a value stands for, if it is no NaN. -/
noncomputable def FpValue.extended (a : FpValue) : Option EReal :=
  match a with
  | .nan _ => none
  | .inf neg => some (if neg then ⊥ else ⊤)
  | .finite _ _ _ => a.real.map (fun x : ℝ => (x : EReal))

/-- `y` is the value of the bit pattern in the format. -/
def IsFp (f : Format) (bits : Nat) (y : ℝ) : Prop :=
  bits < 2 ^ f.width ∧ (unpack f bits).real = some y

/-- The finite value of `bits` is the real number `x` rounded to the format in the direction of R362. -/
def RoundsTo (f : Format) (rm : Rounding) (x : ℝ) (bits : Nat) : Prop :=
  ∃ y, IsFp f bits y ∧
    match rm with
    | .zero => |y| ≤ |x| ∧ ∀ b z, IsFp f b z → |z| ≤ |x| → |z| ≤ |y|
    | .up => x ≤ y ∧ ∀ b z, IsFp f b z → x ≤ z → y ≤ z
    | .down => y ≤ x ∧ ∀ b z, IsFp f b z → z ≤ x → z ≤ y
    | .nearest => ∀ b z, IsFp f b z → |y - x| ≤ |z - x| ∧ (|y - x| = |z - x| → z ≠ y → bits % 2 = 0)

/-- The largest finite number of the format (R367). -/
noncomputable def maxFinite (f : Format) : ℝ := (2 : ℝ) ^ f.emax * (2 - (2 : ℝ) ^ (-(f.fracBits : ℤ)))

/-- The magnitude `|x|`, rounded with an unbounded exponent, exceeds the largest finite number (R365). -/
def Overflows (f : Format) (rm : Rounding) (x : ℝ) : Prop :=
  match rm with
  | .nearest => (2 : ℝ) ^ f.emax * (2 - (2 : ℝ) ^ (-(f.fracBits : ℤ) - 1)) ≤ |x|
  | .zero => (2 : ℝ) ^ (f.emax + 1) ≤ |x|
  | .up => if x < 0 then (2 : ℝ) ^ (f.emax + 1) ≤ |x| else maxFinite f < |x|
  | .down => if x < 0 then maxFinite f < |x| else (2 : ℝ) ^ (f.emax + 1) ≤ |x|

/-- The magnitude `|x|`, rounded to the precision of the format with an unbounded exponent, is below the smallest
normal number (R364). -/
def Tiny (f : Format) (rm : Rounding) (x : ℝ) : Prop :=
  match rm with
  | .nearest => |x| < (2 : ℝ) ^ f.emin * (1 - (2 : ℝ) ^ (-(f.fracBits : ℤ) - 2))
  | .zero => |x| < (2 : ℝ) ^ f.emin
  | .up =>
    if x < 0 then |x| < (2 : ℝ) ^ f.emin
    else |x| ≤ (2 : ℝ) ^ f.emin * (1 - (2 : ℝ) ^ (-(f.fracBits : ℤ) - 1))
  | .down =>
    if x < 0 then |x| ≤ (2 : ℝ) ^ f.emin * (1 - (2 : ℝ) ^ (-(f.fracBits : ℤ) - 1))
    else |x| < (2 : ℝ) ^ f.emin

/-- The result is what R360 to R367 deliver and signal for the exact nonzero value `x`: with O, the entry of the
overflow table, else the correctly rounded value; the sign bit is that of `x`; I exactly when it is not `x`; U
exactly when `x` is tiny and I; and neither V, Z nor E. -/
structure Delivers (f : Format) (rm : Rounding) (x : ℝ) (r : FpResult) : Prop where
  overflow : r.cause.o = true ↔ Overflows f rm x
  bitsOverflow : r.cause.o = true → ∀ neg, (neg = true ↔ x < 0) → r.bits = overflowBits f rm neg
  bitsRounded : r.cause.o = false → RoundsTo f rm x r.bits
  sign : 2 ^ (f.width - 1) ≤ r.bits ↔ x < 0
  inexact : r.cause.i = false ↔ IsFp f r.bits x
  underflow : r.cause.u = true ↔ Tiny f rm x ∧ r.cause.i = true
  others : r.cause.v = false ∧ r.cause.z = false ∧ r.cause.e = false

/-! ### The rules of the FPU operations -/

/-- A NaN operand: the default NaN, and V exactly when one of the operands is signalling (47_fpu_arith.md R363). -/
def NanRule (f : Format) (signalling : Bool) (r : FpResult) : Prop :=
  r.bits = defaultNaN f ∧ r.cause = if signalling then FpCause.invalid else FpCause.none

/-- An exact result that signals nothing. -/
def ExactRule (bits : Nat) (r : FpResult) : Prop := r.bits = bits ∧ r.cause = FpCause.none

/-- An invalid operation: the default NaN and V (R363, R365). -/
def InvalidRule (f : Format) (r : FpResult) : Prop := r.bits = defaultNaN f ∧ r.cause = FpCause.invalid

/-- The sum of two values (R362, R363, R365, R368). -/
def SumRule (f : Format) (rm : Rounding) (a b : FpValue) (r : FpResult) : Prop :=
  match a, b with
  | .nan p, .nan q => NanRule f (p || q) r
  | .nan p, _ => NanRule f p r
  | _, .nan q => NanRule f q r
  | .inf na, .inf nb => if na = nb then ExactRule (infBits f na) r else InvalidRule f r
  | .inf na, .finite _ _ _ => ExactRule (infBits f na) r
  | .finite _ _ _, .inf nb => ExactRule (infBits f nb) r
  | .finite na _ _, .finite nb _ _ =>
    ∀ x y, a.real = some x → b.real = some y →
      (x + y ≠ 0 → Delivers f rm (x + y) r) ∧
      (x + y = 0 → ExactRule (signBits f (if na = nb then na else rm = .down)) r)

/-- The product of two values (R363, R365, R370). -/
def ProductRule (f : Format) (rm : Rounding) (a b : FpValue) (r : FpResult) : Prop :=
  match a, b with
  | .nan p, .nan q => NanRule f (p || q) r
  | .nan p, _ => NanRule f p r
  | _, .nan q => NanRule f q r
  | .inf na, .inf nb => ExactRule (infBits f (na ^^ nb)) r
  | .inf na, .finite nb _ _ =>
    (b.real = some 0 → InvalidRule f r) ∧ (b.real ≠ some 0 → ExactRule (infBits f (na ^^ nb)) r)
  | .finite na _ _, .inf nb =>
    (a.real = some 0 → InvalidRule f r) ∧ (a.real ≠ some 0 → ExactRule (infBits f (na ^^ nb)) r)
  | .finite na _ _, .finite nb _ _ =>
    ∀ x y, a.real = some x → b.real = some y →
      (x * y ≠ 0 → Delivers f rm (x * y) r) ∧ (x * y = 0 → ExactRule (signBits f (na ^^ nb)) r)

/-- The quotient of two values (R363, R365, R371). -/
def QuotientRule (f : Format) (rm : Rounding) (a b : FpValue) (r : FpResult) : Prop :=
  match a, b with
  | .nan p, .nan q => NanRule f (p || q) r
  | .nan p, _ => NanRule f p r
  | _, .nan q => NanRule f q r
  | .inf _, .inf _ => InvalidRule f r
  | .inf na, .finite nb _ _ => ExactRule (infBits f (na ^^ nb)) r
  | .finite na _ _, .inf nb => ExactRule (signBits f (na ^^ nb)) r
  | .finite na _ _, .finite nb _ _ =>
    ∀ x y, a.real = some x → b.real = some y →
      (y ≠ 0 → x ≠ 0 → Delivers f rm (x / y) r) ∧
      (y ≠ 0 → x = 0 → ExactRule (signBits f (na ^^ nb)) r) ∧
      (y = 0 → x ≠ 0 → r.bits = infBits f (na ^^ nb) ∧ r.cause = { z := true }) ∧
      (y = 0 → x = 0 → InvalidRule f r)

/-- The square root of a value (R363, R365, R372). -/
def RootRule (f : Format) (rm : Rounding) (a : FpValue) (r : FpResult) : Prop :=
  match a with
  | .nan p => NanRule f p r
  | .inf neg => if neg then InvalidRule f r else ExactRule (infBits f false) r
  | .finite neg _ _ =>
    ∀ x, a.real = some x →
      (0 < x → Delivers f rm (√x) r) ∧ (x = 0 → ExactRule (signBits f neg) r) ∧ (x < 0 → InvalidRule f r)

/-- A real number as a value of the format; a zero keeps the given sign (R385, R386). -/
def ConvertRule (f : Format) (rm : Rounding) (neg : Bool) (x : ℝ) (r : FpResult) : Prop :=
  (x ≠ 0 → Delivers f rm x r) ∧ (x = 0 → ExactRule (signBits f neg) r)

/-- `q` is the integer that `x` rounds to (section 3). -/
def RoundsToInt (rm : Rounding) (x : ℝ) (q : ℤ) : Prop :=
  match rm with
  | .zero => q = if 0 ≤ x then ⌊x⌋ else ⌈x⌉
  | .up => q = ⌈x⌉
  | .down => q = ⌊x⌋
  | .nearest => |x - q| ≤ 1 / 2 ∧ (|x - q| = 1 / 2 → Even q)

/-- A conversion to an `n`-bit integer (section 3, R389): NaN, infinity or a rounded integer out of range give V and
the largest integer; else the rounded integer, with I exactly when it is not the value. -/
def IntegerRule (rm : Rounding) (n : Nat) (a : FpValue) (r : FpResult) : Prop :=
  match a.real with
  | none => r.bits = 2 ^ (n - 1) - 1 ∧ r.cause = FpCause.invalid
  | some x => ∃ q : ℤ, RoundsToInt rm x q ∧
    (q < -2 ^ (n - 1) ∨ 2 ^ (n - 1) - 1 < q → r.bits = 2 ^ (n - 1) - 1 ∧ r.cause = FpCause.invalid) ∧
    (-2 ^ (n - 1) ≤ q → q ≤ 2 ^ (n - 1) - 1 →
      (r.bits : ℤ) = q % 2 ^ n ∧ ((q : ℝ) = x → r.cause = FpCause.none) ∧ ((q : ℝ) ≠ x → r.cause = { i := true }))

/-- C.cond (R384): what is signalled and the condition. -/
def CompareRule (cond : BitVec 4) (a b : FpValue) (cause : FpCause) (c : Bool) : Prop :=
  match a.extended, b.extended with
  | some x, some y =>
    cause = FpCause.none ∧ (c = true ↔ (x < y ∧ cond.getLsbD 2 = true) ∨ (x = y ∧ cond.getLsbD 1 = true))
  | _, _ =>
    (a = .nan true ∨ b = .nan true ∨ cond.getLsbD 3 = true → cause = FpCause.invalid) ∧
    (¬ (a = .nan true ∨ b = .nan true ∨ cond.getLsbD 3 = true) → cause = FpCause.none) ∧
    c = cond.getLsbD 0

end Sys2Proof.Machine
end

