-- ==== Sys2Proof/Certificates/Slice0/Obligations.lean ====
section
/-! DEFINITION. The statements for the provers, in the terms of Sys2Proof/Safety.lean. -/

open Sys2Proof Sys2Proof.Machine

/-- Decoding the encoding of a well-formed instruction gives it back (30_encoding.md R111, 30_encoding.md R112,
30_encoding.md R119). -/
def Obligations.DecodeEncode : Prop :=
  ∀ i : Instr, i.wellFormed = true → decode (encode i) = .ok i

/-- What the decoder answers is well formed, fits its row and re-encodes to itself (30_encoding.md R119,
30_encoding.md R123). -/
def Obligations.DecodedFitsItsRow : Prop :=
  ∀ (w : Word) (i : Instr), decode w = .ok i →
    i.wellFormed = true ∧ w &&& i.mask = i.pattern ∧ decode (encode i) = .ok i

/-- Six words written out from the encoding decode to the instructions they stand for (30_encoding.md R111,
95_test_vectors.md). -/
def Obligations.DecodeSanity : Prop :=
  decode 0x00221820#32 = .ok (.add 3 1 2) ∧ decode 0x34218765#32 = .ok (.ori 1 1 0x8765#16) ∧
  decode 0x10220003#32 = .ok (.beq 1 2 3#16) ∧ decode 0x40886000#32 = .ok (.mtc0 8 12) ∧
  decode 0x44041000#32 = .ok (.mfc1 4 2) ∧ decode 0x46041180#32 = .ok (.addS 6 2 4)

/-- Every reserved word raises RI, every unassigned COP1 word records E and raises FPE (R323, R120, R361). -/
def Obligations.UnassignedWords : Prop :=
  (∀ (w : Word) (s : State), ReservedWord w → RaisesOnly (executeOne w s) s 10#5 0#2) ∧
  (∀ (w : Word) (s : State), UnassignedCop1 w →
    (statusCU1 s.status = false → RaisesOnly (executeOne w s) s 11#5 1#2) ∧
    (statusCU1 s.status = true →
      ∃ t, executeOne w s = .next t ∧ TrapTaken 15#5 0#2 s t ∧ Counted s t ∧
        OnlyChanges (.fcr regFCSR :: trapParts) s t ∧
        ∀ n, bitAt t.fcsr n = if 12 ≤ n ∧ n ≤ 17 then decide (n = 17) else bitAt s.fcsr n))

/-- ADD, SUB and ADDI: the exact result, or Ov and nothing written (R190, R192, R194, R215). -/
def Obligations.CheckedArithmetic : Prop :=
  Encodes 0x00000020#32 0xFC00003F#32 (fun w => .add (rdOf w) (rsOf w) (rtOf w)) ∧
  Encodes 0x00000022#32 0xFC00003F#32 (fun w => .sub (rdOf w) (rsOf w) (rtOf w)) ∧
  Encodes 0x20000000#32 0xFC000000#32 (fun w => .addi (rtOf w) (rsOf w) (immOf w)) ∧
  (∀ s rd rs rt, ChecksOverflow (.add rd rs rt) s rd ((s.x rs).toInt + (s.x rt).toInt)) ∧
  (∀ s rd rs rt, ChecksOverflow (.sub rd rs rt) s rd ((s.x rs).toInt - (s.x rt).toInt)) ∧
  (∀ s rt rs imm, ChecksOverflow (.addi rt rs imm) s rt ((s.x rs).toInt + imm.toInt))

/-- ADDU, SUBU, ADDIU, AND, OR, XOR, NOR, ANDI, ORI, XORI and LUI: result, completion and frame (R191, R193, R195,
R196, R197, R198, R199, R200, R201, R202, R203). -/
def Obligations.ArithmeticAndLogic : Prop :=
  Encodes 0x00000021#32 0xFC00003F#32 (fun w => .addu (rdOf w) (rsOf w) (rtOf w)) ∧
  Encodes 0x00000023#32 0xFC00003F#32 (fun w => .subu (rdOf w) (rsOf w) (rtOf w)) ∧
  Encodes 0x24000000#32 0xFC000000#32 (fun w => .addiu (rtOf w) (rsOf w) (immOf w)) ∧
  Encodes 0x00000024#32 0xFC00003F#32 (fun w => .and (rdOf w) (rsOf w) (rtOf w)) ∧
  Encodes 0x00000025#32 0xFC00003F#32 (fun w => .or (rdOf w) (rsOf w) (rtOf w)) ∧
  Encodes 0x00000026#32 0xFC00003F#32 (fun w => .xor (rdOf w) (rsOf w) (rtOf w)) ∧
  Encodes 0x00000027#32 0xFC00003F#32 (fun w => .nor (rdOf w) (rsOf w) (rtOf w)) ∧
  Encodes 0x30000000#32 0xFC000000#32 (fun w => .andi (rtOf w) (rsOf w) (immOf w)) ∧
  Encodes 0x34000000#32 0xFC000000#32 (fun w => .ori (rtOf w) (rsOf w) (immOf w)) ∧
  Encodes 0x38000000#32 0xFC000000#32 (fun w => .xori (rtOf w) (rsOf w) (immOf w)) ∧
  Encodes 0x3C000000#32 0xFC000000#32 (fun w => .lui (rtOf w) (immOf w)) ∧
  (∀ s rd rs rt, WritesX (.addu rd rs rt) s rd (BitVec.ofNat 32 ((s.x rs).toNat + (s.x rt).toNat))) ∧
  (∀ s rd rs rt, WritesX (.subu rd rs rt) s rd (BitVec.ofInt 32 ((s.x rs).toNat - (s.x rt).toNat))) ∧
  (∀ s rt rs imm, WritesX (.addiu rt rs imm) s rt (BitVec.ofInt 32 ((s.x rs).toNat + imm.toInt))) ∧
  (∀ s rd rs rt, WritesX (.and rd rs rt) s rd (s.x rs &&& s.x rt)) ∧
  (∀ s rd rs rt, WritesX (.or rd rs rt) s rd (s.x rs ||| s.x rt)) ∧
  (∀ s rd rs rt, WritesX (.xor rd rs rt) s rd (s.x rs ^^^ s.x rt)) ∧
  (∀ s rd rs rt, WritesX (.nor rd rs rt) s rd (~~~(s.x rs ||| s.x rt))) ∧
  (∀ s rt rs imm, WritesX (.andi rt rs imm) s rt (s.x rs &&& BitVec.ofNat 32 imm.toNat)) ∧
  (∀ s rt rs imm, WritesX (.ori rt rs imm) s rt (s.x rs ||| BitVec.ofNat 32 imm.toNat)) ∧
  (∀ s rt rs imm, WritesX (.xori rt rs imm) s rt (s.x rs ^^^ BitVec.ofNat 32 imm.toNat)) ∧
  (∀ s rt imm, WritesX (.lui rt imm) s rt (BitVec.ofNat 32 (imm.toNat * 2 ^ 16)))

/-- SLT, SLTU, SLTI, SLTIU and the six shifts: result, completion and frame (R204, R205, R206, R207, R208, R209, R210,
R211, R212, R213). -/
def Obligations.CompareAndShift : Prop :=
  Encodes 0x0000002A#32 0xFC00003F#32 (fun w => .slt (rdOf w) (rsOf w) (rtOf w)) ∧
  Encodes 0x0000002B#32 0xFC00003F#32 (fun w => .sltu (rdOf w) (rsOf w) (rtOf w)) ∧
  Encodes 0x28000000#32 0xFC000000#32 (fun w => .slti (rtOf w) (rsOf w) (immOf w)) ∧
  Encodes 0x2C000000#32 0xFC000000#32 (fun w => .sltiu (rtOf w) (rsOf w) (immOf w)) ∧
  Encodes 0x00000000#32 0xFC00003F#32 (fun w => .sll (rdOf w) (rtOf w) (saNat w)) ∧
  Encodes 0x00000002#32 0xFC00003F#32 (fun w => .srl (rdOf w) (rtOf w) (saNat w)) ∧
  Encodes 0x00000003#32 0xFC00003F#32 (fun w => .sra (rdOf w) (rtOf w) (saNat w)) ∧
  Encodes 0x00000004#32 0xFC00003F#32 (fun w => .sllv (rdOf w) (rtOf w) (rsOf w)) ∧
  Encodes 0x00000006#32 0xFC00003F#32 (fun w => .srlv (rdOf w) (rtOf w) (rsOf w)) ∧
  Encodes 0x00000007#32 0xFC00003F#32 (fun w => .srav (rdOf w) (rtOf w) (rsOf w)) ∧
  (∀ s rd rs rt, WritesX (.slt rd rs rt) s rd (if (s.x rs).toInt < (s.x rt).toInt then 1#32 else 0#32)) ∧
  (∀ s rd rs rt, WritesX (.sltu rd rs rt) s rd (if (s.x rs).toNat < (s.x rt).toNat then 1#32 else 0#32)) ∧
  (∀ s rt rs imm, WritesX (.slti rt rs imm) s rt (if (s.x rs).toInt < imm.toInt then 1#32 else 0#32)) ∧
  (∀ s rt rs imm, WritesX (.sltiu rt rs imm) s rt (if (s.x rs).toNat < (BitVec.ofInt 32 imm.toInt).toNat then 1#32 else 0#32)) ∧
  (∀ s rd rt sa, WritesX (.sll rd rt sa) s rd (BitVec.ofNat 32 ((s.x rt).toNat * 2 ^ sa))) ∧
  (∀ s rd rt sa, WritesX (.srl rd rt sa) s rd (BitVec.ofNat 32 ((s.x rt).toNat / 2 ^ sa))) ∧
  (∀ s rd rt sa, WritesX (.sra rd rt sa) s rd (BitVec.ofInt 32 ((s.x rt).toInt / 2 ^ sa))) ∧
  (∀ s rd rt rs, WritesX (.sllv rd rt rs) s rd (BitVec.ofNat 32 ((s.x rt).toNat * 2 ^ ((s.x rs).toNat % 32)))) ∧
  (∀ s rd rt rs, WritesX (.srlv rd rt rs) s rd (BitVec.ofNat 32 ((s.x rt).toNat / 2 ^ ((s.x rs).toNat % 32)))) ∧
  (∀ s rd rt rs, WritesX (.srav rd rt rs) s rd (BitVec.ofInt 32 ((s.x rt).toInt / 2 ^ ((s.x rs).toNat % 32))))

/-- MULT, MULTU, DIV, DIVU and the HI/LO moves: result, completion and frame (R230, R231, R232, R233, R234, R235,
R236, R237). -/
def Obligations.MultiplyAndDivide : Prop :=
  Encodes 0x00000018#32 0xFC00003F#32 (fun w => .mult (rsOf w) (rtOf w)) ∧
  Encodes 0x00000019#32 0xFC00003F#32 (fun w => .multu (rsOf w) (rtOf w)) ∧
  Encodes 0x0000001A#32 0xFC00003F#32 (fun w => .div (rsOf w) (rtOf w)) ∧
  Encodes 0x0000001B#32 0xFC00003F#32 (fun w => .divu (rsOf w) (rtOf w)) ∧
  Encodes 0x00000010#32 0xFC00003F#32 (fun w => .mfhi (rdOf w)) ∧
  Encodes 0x00000011#32 0xFC00003F#32 (fun w => .mthi (rsOf w)) ∧
  Encodes 0x00000012#32 0xFC00003F#32 (fun w => .mflo (rdOf w)) ∧
  Encodes 0x00000013#32 0xFC00003F#32 (fun w => .mtlo (rsOf w)) ∧
  (∀ s rs rt, Completes (.mult rs rt) s [.hi, .lo] (fun t =>
    (t.cpu.hi ++ t.cpu.lo).toInt = (s.x rs).toInt * (s.x rt).toInt)) ∧
  (∀ s rs rt, Completes (.multu rs rt) s [.hi, .lo] (fun t =>
    (t.cpu.hi ++ t.cpu.lo).toNat = (s.x rs).toNat * (s.x rt).toNat)) ∧
  (∀ s rs rt, Completes (.div rs rt) s [.hi, .lo] (fun t =>
    ((s.x rt).toInt = 0 →
      t.cpu.lo = (if 0 ≤ (s.x rs).toInt then 0xFFFFFFFF#32 else 0x00000001#32) ∧ t.cpu.hi = s.x rs) ∧
    ((s.x rs).toInt = -2 ^ 31 → (s.x rt).toInt = -1 → t.cpu.lo = 0x80000000#32 ∧ t.cpu.hi = 0x00000000#32) ∧
    ((s.x rt).toInt ≠ 0 → ¬ ((s.x rs).toInt = -2 ^ 31 ∧ (s.x rt).toInt = -1) →
      t.cpu.lo.toInt = (s.x rs).toInt.tdiv (s.x rt).toInt ∧ t.cpu.hi.toInt = (s.x rs).toInt.tmod (s.x rt).toInt))) ∧
  (∀ s rs rt, Completes (.divu rs rt) s [.hi, .lo] (fun t =>
    ((s.x rt).toNat = 0 → t.cpu.lo = 0xFFFFFFFF#32 ∧ t.cpu.hi = s.x rs) ∧
    ((s.x rt).toNat ≠ 0 →
      t.cpu.lo.toNat = (s.x rs).toNat / (s.x rt).toNat ∧ t.cpu.hi.toNat = (s.x rs).toNat % (s.x rt).toNat))) ∧
  (∀ s rd, WritesX (.mfhi rd) s rd s.cpu.hi) ∧
  (∀ s rs, Completes (.mthi rs) s [.hi] (fun t => t.cpu.hi = s.x rs)) ∧
  (∀ s rd, WritesX (.mflo rd) s rd s.cpu.lo) ∧
  (∀ s rs, Completes (.mtlo rs) s [.lo] (fun t => t.cpu.lo = s.x rs))

/-- The division table: a = b*q + r, |r| < |b|, the signs, and the two corner rows (R238). -/
def Obligations.DivisionTable : Prop :=
  (∀ (s : State) (rs rt : Reg), ∃ t, exec (.div rs rt) s = .next t ∧
    let a := (s.x rs).toInt; let b := (s.x rt).toInt
    let q := t.cpu.lo.toInt; let r := t.cpu.hi.toInt
    (b ≠ 0 → ¬ (a = -2 ^ 31 ∧ b = -1) → a = b * q + r ∧ |r| < |b| ∧ (r = 0 ∨ r.sign = a.sign)) ∧
    (0 ≤ a → 0 < b → 0 ≤ q ∧ 0 ≤ r) ∧ (0 ≤ a → b < 0 → q ≤ 0 ∧ 0 ≤ r) ∧
    (a < 0 → 0 < b → q ≤ 0 ∧ r ≤ 0) ∧ (a < 0 → b < 0 → ¬ (a = -2 ^ 31 ∧ b = -1) → 0 ≤ q ∧ r ≤ 0) ∧
    (b = 0 → t.cpu.lo = (if 0 ≤ a then 0xFFFFFFFF#32 else 1#32) ∧ t.cpu.hi = s.x rs) ∧
    (a = -2 ^ 31 → b = -1 → t.cpu.lo = 0x80000000#32 ∧ t.cpu.hi = 0#32)) ∧
  (∀ (s : State) (rs rt : Reg), ∃ t, exec (.divu rs rt) s = .next t ∧
    ((s.x rt).toNat ≠ 0 → (s.x rs).toNat = (s.x rt).toNat * t.cpu.lo.toNat + t.cpu.hi.toNat ∧
      t.cpu.hi.toNat < (s.x rt).toNat))

/-- J, JAL, JR, JALR and the branch-and-link instructions: target, link, delay slot and frame (R252, R253, R254, R255,
R262, R263, R270, R271). -/
def Obligations.JumpsAndLinks : Prop :=
  Encodes 0x08000000#32 0xFC000000#32 (fun w => .j (targetOf w)) ∧
  Encodes 0x0C000000#32 0xFC000000#32 (fun w => .jal (targetOf w)) ∧
  Encodes 0x00000008#32 0xFC00003F#32 (fun w => .jr (rsOf w)) ∧
  Encodes 0x00000009#32 0xFC00003F#32 (fun w => .jalr (rdOf w) (rsOf w)) ∧
  (∀ s target, s.cpu.delay = .none →
    Transfers (.j target) s (s.cpu.pc + 4#32) (.taken ((s.cpu.pc + 4#32).extractLsb' 28 4 ++ target ++ 0#2)) [] (fun _ => True)) ∧
  (∀ s target, s.cpu.delay = .none →
    Transfers (.jal target) s (s.cpu.pc + 4#32) (.taken ((s.cpu.pc + 4#32).extractLsb' 28 4 ++ target ++ 0#2)) [.gpr 31]
      (fun t => t.x 31 = s.cpu.pc + 8#32)) ∧
  (∀ s rs, s.cpu.delay = .none →
    Transfers (.jr rs) s (s.cpu.pc + 4#32) (.taken (s.x rs)) [] (fun _ => True)) ∧
  (∀ s rd rs, s.cpu.delay = .none →
    Transfers (.jalr rd rs) s (s.cpu.pc + 4#32) (.taken (s.x rs)) [.gpr rd]
      (fun t => t.x rd = if rd = 0 then 0#32 else s.cpu.pc + 8#32)) ∧
  Encodes 0x04100000#32 0xFC1F0000#32 (fun w => .bltzal (rsOf w) (immOf w)) ∧
  Encodes 0x04110000#32 0xFC1F0000#32 (fun w => .bgezal (rsOf w) (immOf w)) ∧
  Encodes 0x04120000#32 0xFC1F0000#32 (fun w => .bltzall (rsOf w) (immOf w)) ∧
  Encodes 0x04130000#32 0xFC1F0000#32 (fun w => .bgezall (rsOf w) (immOf w)) ∧
  (∀ s rs offset, s.cpu.delay = .none →
    Branches ((s.x rs).toInt < 0) false (.bltzal rs offset) s (targetAt s offset) [.gpr 31] (fun t => t.x 31 = s.cpu.pc + 8#32)) ∧
  (∀ s rs offset, s.cpu.delay = .none →
    Branches (0 ≤ (s.x rs).toInt) false (.bgezal rs offset) s (targetAt s offset) [.gpr 31] (fun t => t.x 31 = s.cpu.pc + 8#32)) ∧
  (∀ s rs offset, s.cpu.delay = .none →
    Branches ((s.x rs).toInt < 0) true (.bltzall rs offset) s (targetAt s offset) [.gpr 31] (fun t => t.x 31 = s.cpu.pc + 8#32)) ∧
  (∀ s rs offset, s.cpu.delay = .none →
    Branches (0 ≤ (s.x rs).toInt) true (.bgezall rs offset) s (targetAt s offset) [.gpr 31] (fun t => t.x 31 = s.cpu.pc + 8#32))

/-- The branches and branches-likely: condition, target, delay slot and frame (R256, R257, R258, R259, R260, R261,
R264, R265, R266, R267, R268, R269). -/
def Obligations.ConditionalBranches : Prop :=
  Encodes 0x10000000#32 0xFC000000#32 (fun w => .beq (rsOf w) (rtOf w) (immOf w)) ∧
  Encodes 0x14000000#32 0xFC000000#32 (fun w => .bne (rsOf w) (rtOf w) (immOf w)) ∧
  Encodes 0x18000000#32 0xFC000000#32 (fun w => .blez (rsOf w) (immOf w)) ∧
  Encodes 0x1C000000#32 0xFC000000#32 (fun w => .bgtz (rsOf w) (immOf w)) ∧
  Encodes 0x04000000#32 0xFC1F0000#32 (fun w => .bltz (rsOf w) (immOf w)) ∧
  Encodes 0x04010000#32 0xFC1F0000#32 (fun w => .bgez (rsOf w) (immOf w)) ∧
  Encodes 0x50000000#32 0xFC000000#32 (fun w => .beql (rsOf w) (rtOf w) (immOf w)) ∧
  Encodes 0x54000000#32 0xFC000000#32 (fun w => .bnel (rsOf w) (rtOf w) (immOf w)) ∧
  Encodes 0x58000000#32 0xFC000000#32 (fun w => .blezl (rsOf w) (immOf w)) ∧
  Encodes 0x5C000000#32 0xFC000000#32 (fun w => .bgtzl (rsOf w) (immOf w)) ∧
  Encodes 0x04020000#32 0xFC1F0000#32 (fun w => .bltzl (rsOf w) (immOf w)) ∧
  Encodes 0x04030000#32 0xFC1F0000#32 (fun w => .bgezl (rsOf w) (immOf w)) ∧
  (∀ s rs rt offset, s.cpu.delay = .none →
    Branches (s.x rs = s.x rt) false (.beq rs rt offset) s (targetAt s offset) [] (fun _ => True)) ∧
  (∀ s rs rt offset, s.cpu.delay = .none →
    Branches (s.x rs ≠ s.x rt) false (.bne rs rt offset) s (targetAt s offset) [] (fun _ => True)) ∧
  (∀ s rs offset, s.cpu.delay = .none →
    Branches ((s.x rs).toInt ≤ 0) false (.blez rs offset) s (targetAt s offset) [] (fun _ => True)) ∧
  (∀ s rs offset, s.cpu.delay = .none →
    Branches (0 < (s.x rs).toInt) false (.bgtz rs offset) s (targetAt s offset) [] (fun _ => True)) ∧
  (∀ s rs offset, s.cpu.delay = .none →
    Branches ((s.x rs).toInt < 0) false (.bltz rs offset) s (targetAt s offset) [] (fun _ => True)) ∧
  (∀ s rs offset, s.cpu.delay = .none →
    Branches (0 ≤ (s.x rs).toInt) false (.bgez rs offset) s (targetAt s offset) [] (fun _ => True)) ∧
  (∀ s rs rt offset, s.cpu.delay = .none →
    Branches (s.x rs = s.x rt) true (.beql rs rt offset) s (targetAt s offset) [] (fun _ => True)) ∧
  (∀ s rs rt offset, s.cpu.delay = .none →
    Branches (s.x rs ≠ s.x rt) true (.bnel rs rt offset) s (targetAt s offset) [] (fun _ => True)) ∧
  (∀ s rs offset, s.cpu.delay = .none →
    Branches ((s.x rs).toInt ≤ 0) true (.blezl rs offset) s (targetAt s offset) [] (fun _ => True)) ∧
  (∀ s rs offset, s.cpu.delay = .none →
    Branches (0 < (s.x rs).toInt) true (.bgtzl rs offset) s (targetAt s offset) [] (fun _ => True)) ∧
  (∀ s rs offset, s.cpu.delay = .none →
    Branches ((s.x rs).toInt < 0) true (.bltzl rs offset) s (targetAt s offset) [] (fun _ => True)) ∧
  (∀ s rs offset, s.cpu.delay = .none →
    Branches (0 ≤ (s.x rs).toInt) true (.bgezl rs offset) s (targetAt s offset) [] (fun _ => True))

/-- A control-transfer instruction in a delay slot is refused, and nothing else ever is (40_controller.md R145,
00_scope.md R12, 93_implementation_defined.md, notes/assumptions/14.md). That nothing else is refused is read from the
outcomes of R12 and the list of section 93; REFUSED as a refusal is log entry 14 (DEDUCED). -/
def Obligations.TransferInSlotRefused : Prop :=
  ∀ (i : Instr) (s : State),
    (ControlTransfer i ∧ s.cpu.delay ≠ .none ↔ exec i s = .refused .controlTransferInDelaySlot) ∧
    (∀ r, exec i s = .refused r → r = .controlTransferInDelaySlot)

/-- LB, LBU, LH, LHU, LW, LWL and LWR: the big-endian bytes, extended or merged; completion and frame (R281, R282,
R283, R284, R285, R292, R293). -/
def Obligations.Loads : Prop :=
  Encodes 0x80000000#32 0xFC000000#32 (fun w => .lb (rtOf w) (rsOf w) (immOf w)) ∧
  Encodes 0x90000000#32 0xFC000000#32 (fun w => .lbu (rtOf w) (rsOf w) (immOf w)) ∧
  Encodes 0x84000000#32 0xFC000000#32 (fun w => .lh (rtOf w) (rsOf w) (immOf w)) ∧
  Encodes 0x94000000#32 0xFC000000#32 (fun w => .lhu (rtOf w) (rsOf w) (immOf w)) ∧
  Encodes 0x8C000000#32 0xFC000000#32 (fun w => .lw (rtOf w) (rsOf w) (immOf w)) ∧
  (∀ s rt base offset, LoadsX (.lb rt base offset) s rt (addressAt s base offset) 8 1 [] (fun v => BitVec.ofInt 32 v.toInt) (fun _ => True)) ∧
  (∀ s rt base offset, LoadsX (.lbu rt base offset) s rt (addressAt s base offset) 8 1 [] (fun v => BitVec.ofNat 32 v.toNat) (fun _ => True)) ∧
  (∀ s rt base offset, LoadsX (.lh rt base offset) s rt (addressAt s base offset) 16 2 [] (fun v => BitVec.ofInt 32 v.toInt) (fun _ => True)) ∧
  (∀ s rt base offset, LoadsX (.lhu rt base offset) s rt (addressAt s base offset) 16 2 [] (fun v => BitVec.ofNat 32 v.toNat) (fun _ => True)) ∧
  (∀ s rt base offset, LoadsX (.lw rt base offset) s rt (addressAt s base offset) 32 4 [] (fun v => v) (fun _ => True)) ∧
  Encodes 0x88000000#32 0xFC000000#32 (fun w => .lwl (rtOf w) (rsOf w) (immOf w)) ∧
  Encodes 0x98000000#32 0xFC000000#32 (fun w => .lwr (rtOf w) (rsOf w) (immOf w)) ∧
  (∀ s rt base offset, ∀ k, (addressAt s base offset).toNat % 4 = k →
    LoadsX (.lwl rt base offset) s rt ((addressAt s base offset) - BitVec.ofNat 32 k) 32 4 []
      (fun m => BitVec.ofNat 32 (m.toNat % 2 ^ (32 - 8 * k) * 2 ^ (8 * k) + (s.x rt).toNat % 2 ^ (8 * k)))
      (fun _ => True)) ∧
  (∀ s rt base offset, ∀ k, (addressAt s base offset).toNat % 4 = k →
    LoadsX (.lwr rt base offset) s rt ((addressAt s base offset) - BitVec.ofNat 32 k) 32 4 []
      (fun m => BitVec.ofNat 32
        ((s.x rt).toNat / 2 ^ (8 * k + 8) * 2 ^ (8 * k + 8) + m.toNat / 2 ^ (24 - 8 * k)))
      (fun _ => True))

/-- SB, SH, SW, SWL and SWR: the bytes stored, at the computed address, and no other byte (R286, R287, R288, R290,
R291). -/
def Obligations.Stores : Prop :=
  Encodes 0xA0000000#32 0xFC000000#32 (fun w => .sb (rtOf w) (rsOf w) (immOf w)) ∧
  Encodes 0xA4000000#32 0xFC000000#32 (fun w => .sh (rtOf w) (rsOf w) (immOf w)) ∧
  Encodes 0xAC000000#32 0xFC000000#32 (fun w => .sw (rtOf w) (rsOf w) (immOf w)) ∧
  Encodes 0xA8000000#32 0xFC000000#32 (fun w => .swl (rtOf w) (rsOf w) (immOf w)) ∧
  Encodes 0xB8000000#32 0xFC000000#32 (fun w => .swr (rtOf w) (rsOf w) (immOf w)) ∧
  (∀ s rt base offset, MemoryOk s → StoresAt (.sb rt base offset) s (addressAt s base offset) 1 (s.x rt) [] (fun _ => True)) ∧
  (∀ s rt base offset, MemoryOk s → StoresAt (.sh rt base offset) s (addressAt s base offset) 2 (s.x rt) [] (fun _ => True)) ∧
  (∀ s rt base offset, MemoryOk s → StoresAt (.sw rt base offset) s (addressAt s base offset) 4 (s.x rt) [] (fun _ => True)) ∧
  (∀ s rt base offset, MemoryOk s → ∀ k, (addressAt s base offset).toNat % 4 = k →
    StoresAt (.swl rt base offset) s (addressAt s base offset) (4 - k) (s.x rt >>> (8 * k)) [] (fun _ => True)) ∧
  (∀ s rt base offset, MemoryOk s → ∀ k, (addressAt s base offset).toNat % 4 = k →
    StoresAt (.swr rt base offset) s ((addressAt s base offset) - BitVec.ofNat 32 k) (k + 1) (s.x rt) [] (fun _ => True))

/-- LWL then LWR (and SWL then SWR) move the unaligned word (44_loadstore.md R289). -/
def Obligations.UnalignedPairs : Prop :=
  (∀ (s t : State) (rt base : Reg) (a b : BitVec 16), rt ≠ 0 → rt ≠ base →
    addressAt s base b = addressAt s base a + 3#32 → exec (.lwl rt base a) s = .next t →
    ∃ u v, exec (.lwr rt base b) t = .next u ∧ u.x rt = v ∧ s.mem.Holds (addressAt s base a) 4 v) ∧
  (∀ (s t : State) (rt base : Reg) (a b : BitVec 16), MemoryOk s →
    addressAt s base b = addressAt s base a + 3#32 → s.mem.Plain (addressAt s base a) 4 →
    exec (.swl rt base a) s = .next t →
    ∃ u, exec (.swr rt base b) t = .next u ∧ u.mem.Holds (addressAt s base a) 4 (s.x rt))

/-- LL, SC, SYNC and CACHE: the reservation, the store, the no-ops, the frames (R294, R295, R296, R297). -/
def Obligations.LinkedAndOrdering : Prop :=
  Encodes 0xC0000000#32 0xFC000000#32 (fun w => .ll (rtOf w) (rsOf w) (immOf w)) ∧
  Encodes 0xE0000000#32 0xFC000000#32 (fun w => .sc (rtOf w) (rsOf w) (immOf w)) ∧
  (∀ s rt base offset, LoadsX (.ll rt base offset) s rt (addressAt s base offset) 32 4 [.llbit] (fun v => v)
    (fun t => t.cpu.llbit = true)) ∧
  (∀ s rt base offset, MemoryOk s → s.cpu.llbit = true →
    StoresAt (.sc rt base offset) s (addressAt s base offset) 4 (s.x rt) [.gpr rt, .llbit]
      (fun t => t.x rt = (if rt = 0 then 0#32 else 1#32) ∧ t.cpu.llbit = false)) ∧
  (∀ s rt base offset, s.cpu.llbit = false →
    Completes (.sc rt base offset) s [.gpr rt, .llbit] (fun t => t.x rt = 0#32 ∧ t.cpu.llbit = false)) ∧
  Encodes 0x0000000F#32 0xFC00003F#32 (fun w => .sync (saNat w)) ∧
  Encodes 0xBC000000#32 0xFC000000#32 (fun w => .cache (rtNat w) (rsOf w) (immOf w)) ∧
  (∀ s stype, DoesNothing (.sync stype) s) ∧
  (∀ s op base offset, DoesNothing (.cache op base offset) s)

/-- SYSCALL, BREAK, the TLB, doubleword and COP2 instructions: the exception and nothing else (R310, R311, R324, R325,
R326). -/
def Obligations.AlwaysRaise : Prop :=
  Encodes 0x0000000C#32 0xFC00003F#32 (fun w => .syscall (code20 w)) ∧
  Encodes 0x0000000D#32 0xFC00003F#32 (fun w => .brk (code20 w)) ∧
  (∀ s code, Traps (.syscall code) s 8#5 0#2) ∧
  (∀ s code, Traps (.brk code) s 9#5 0#2) ∧
  Encodes 0x42000001#32 0xFE00003F#32 (fun _ => .tlbr) ∧
  Encodes 0x42000002#32 0xFE00003F#32 (fun _ => .tlbwi) ∧
  Encodes 0x42000006#32 0xFE00003F#32 (fun _ => .tlbwr) ∧
  Encodes 0x42000008#32 0xFE00003F#32 (fun _ => .tlbp) ∧
  Encodes 0x60000000#32 0xFC000000#32 (fun w => .daddi (rtOf w) (rsOf w) (immOf w)) ∧
  Encodes 0x64000000#32 0xFC000000#32 (fun w => .daddiu (rtOf w) (rsOf w) (immOf w)) ∧
  Encodes 0x68000000#32 0xFC000000#32 (fun w => .ldl (rtOf w) (rsOf w) (immOf w)) ∧
  Encodes 0x6C000000#32 0xFC000000#32 (fun w => .ldr (rtOf w) (rsOf w) (immOf w)) ∧
  Encodes 0x9C000000#32 0xFC000000#32 (fun w => .lwu (rtOf w) (rsOf w) (immOf w)) ∧
  Encodes 0xB0000000#32 0xFC000000#32 (fun w => .sdl (rtOf w) (rsOf w) (immOf w)) ∧
  Encodes 0xB4000000#32 0xFC000000#32 (fun w => .sdr (rtOf w) (rsOf w) (immOf w)) ∧
  Encodes 0xD0000000#32 0xFC000000#32 (fun w => .lld (rtOf w) (rsOf w) (immOf w)) ∧
  Encodes 0xDC000000#32 0xFC000000#32 (fun w => .ld (rtOf w) (rsOf w) (immOf w)) ∧
  Encodes 0xF0000000#32 0xFC000000#32 (fun w => .scd (rtOf w) (rsOf w) (immOf w)) ∧
  Encodes 0xFC000000#32 0xFC000000#32 (fun w => .sd (rtOf w) (rsOf w) (immOf w)) ∧
  Encodes 0x00000014#32 0xFC00003F#32 (fun w => .dsllv (rdOf w) (rtOf w) (rsOf w)) ∧
  Encodes 0x00000016#32 0xFC00003F#32 (fun w => .dsrlv (rdOf w) (rtOf w) (rsOf w)) ∧
  Encodes 0x00000017#32 0xFC00003F#32 (fun w => .dsrav (rdOf w) (rtOf w) (rsOf w)) ∧
  Encodes 0x0000002C#32 0xFC00003F#32 (fun w => .dadd (rdOf w) (rsOf w) (rtOf w)) ∧
  Encodes 0x0000002D#32 0xFC00003F#32 (fun w => .daddu (rdOf w) (rsOf w) (rtOf w)) ∧
  Encodes 0x0000002E#32 0xFC00003F#32 (fun w => .dsub (rdOf w) (rsOf w) (rtOf w)) ∧
  Encodes 0x0000002F#32 0xFC00003F#32 (fun w => .dsubu (rdOf w) (rsOf w) (rtOf w)) ∧
  Encodes 0x0000001C#32 0xFC00003F#32 (fun w => .dmult (rsOf w) (rtOf w)) ∧
  Encodes 0x0000001D#32 0xFC00003F#32 (fun w => .dmultu (rsOf w) (rtOf w)) ∧
  Encodes 0x0000001E#32 0xFC00003F#32 (fun w => .ddiv (rsOf w) (rtOf w)) ∧
  Encodes 0x0000001F#32 0xFC00003F#32 (fun w => .ddivu (rsOf w) (rtOf w)) ∧
  Encodes 0x00000038#32 0xFC00003F#32 (fun w => .dsll (rdOf w) (rtOf w) (saNat w)) ∧
  Encodes 0x0000003A#32 0xFC00003F#32 (fun w => .dsrl (rdOf w) (rtOf w) (saNat w)) ∧
  Encodes 0x0000003B#32 0xFC00003F#32 (fun w => .dsra (rdOf w) (rtOf w) (saNat w)) ∧
  Encodes 0x0000003C#32 0xFC00003F#32 (fun w => .dsll32 (rdOf w) (rtOf w) (saNat w)) ∧
  Encodes 0x0000003E#32 0xFC00003F#32 (fun w => .dsrl32 (rdOf w) (rtOf w) (saNat w)) ∧
  Encodes 0x0000003F#32 0xFC00003F#32 (fun w => .dsra32 (rdOf w) (rtOf w) (saNat w)) ∧
  Encodes 0x40200000#32 0xFFE00000#32 (fun w => .dmfc0 (rtOf w) (rdOf w)) ∧
  Encodes 0x40A00000#32 0xFFE00000#32 (fun w => .dmtc0 (rtOf w) (rdOf w)) ∧
  Encodes 0x44200000#32 0xFFE00000#32 (fun w => .dmfc1 (rtOf w) (rdOf w)) ∧
  Encodes 0x44A00000#32 0xFFE00000#32 (fun w => .dmtc1 (rtOf w) (rdOf w)) ∧
  (∀ s, Traps (.tlbr) s 10#5 0#2) ∧
  (∀ s, Traps (.tlbwi) s 10#5 0#2) ∧
  (∀ s, Traps (.tlbwr) s 10#5 0#2) ∧
  (∀ s, Traps (.tlbp) s 10#5 0#2) ∧
  (∀ s rt rs imm, Traps (.daddi rt rs imm) s 10#5 0#2) ∧
  (∀ s rt rs imm, Traps (.daddiu rt rs imm) s 10#5 0#2) ∧
  (∀ s rt base offset, Traps (.ldl rt base offset) s 10#5 0#2) ∧
  (∀ s rt base offset, Traps (.ldr rt base offset) s 10#5 0#2) ∧
  (∀ s rt base offset, Traps (.lwu rt base offset) s 10#5 0#2) ∧
  (∀ s rt base offset, Traps (.sdl rt base offset) s 10#5 0#2) ∧
  (∀ s rt base offset, Traps (.sdr rt base offset) s 10#5 0#2) ∧
  (∀ s rt base offset, Traps (.lld rt base offset) s 10#5 0#2) ∧
  (∀ s rt base offset, Traps (.ld rt base offset) s 10#5 0#2) ∧
  (∀ s rt base offset, Traps (.scd rt base offset) s 10#5 0#2) ∧
  (∀ s rt base offset, Traps (.sd rt base offset) s 10#5 0#2) ∧
  (∀ s rd rt rs, Traps (.dsllv rd rt rs) s 10#5 0#2) ∧
  (∀ s rd rt rs, Traps (.dsrlv rd rt rs) s 10#5 0#2) ∧
  (∀ s rd rt rs, Traps (.dsrav rd rt rs) s 10#5 0#2) ∧
  (∀ s rd rs rt, Traps (.dadd rd rs rt) s 10#5 0#2) ∧
  (∀ s rd rs rt, Traps (.daddu rd rs rt) s 10#5 0#2) ∧
  (∀ s rd rs rt, Traps (.dsub rd rs rt) s 10#5 0#2) ∧
  (∀ s rd rs rt, Traps (.dsubu rd rs rt) s 10#5 0#2) ∧
  (∀ s rs rt, Traps (.dmult rs rt) s 10#5 0#2) ∧
  (∀ s rs rt, Traps (.dmultu rs rt) s 10#5 0#2) ∧
  (∀ s rs rt, Traps (.ddiv rs rt) s 10#5 0#2) ∧
  (∀ s rs rt, Traps (.ddivu rs rt) s 10#5 0#2) ∧
  (∀ s rd rt sa, Traps (.dsll rd rt sa) s 10#5 0#2) ∧
  (∀ s rd rt sa, Traps (.dsrl rd rt sa) s 10#5 0#2) ∧
  (∀ s rd rt sa, Traps (.dsra rd rt sa) s 10#5 0#2) ∧
  (∀ s rd rt sa, Traps (.dsll32 rd rt sa) s 10#5 0#2) ∧
  (∀ s rd rt sa, Traps (.dsrl32 rd rt sa) s 10#5 0#2) ∧
  (∀ s rd rt sa, Traps (.dsra32 rd rt sa) s 10#5 0#2) ∧
  (∀ s rt rd, Traps (.dmfc0 rt rd) s 10#5 0#2) ∧
  (∀ s rt rd, Traps (.dmtc0 rt rd) s 10#5 0#2) ∧
  (∀ s rt fs, NeedsCU1 (.dmfc1 rt fs) s (Traps (.dmfc1 rt fs) s 10#5 0#2)) ∧
  (∀ s rt fs, NeedsCU1 (.dmtc1 rt fs) s (Traps (.dmtc1 rt fs) s 10#5 0#2)) ∧
  Encodes 0x48000000#32 0xFC000000#32 (fun w => .cop2 (cofunOf w)) ∧
  Encodes 0xC8000000#32 0xFC000000#32 (fun w => .lwc2 (rtOf w) (rsOf w) (immOf w)) ∧
  Encodes 0xD8000000#32 0xFC000000#32 (fun w => .ldc2 (rtOf w) (rsOf w) (immOf w)) ∧
  Encodes 0xE8000000#32 0xFC000000#32 (fun w => .swc2 (rtOf w) (rsOf w) (immOf w)) ∧
  Encodes 0xF8000000#32 0xFC000000#32 (fun w => .sdc2 (rtOf w) (rsOf w) (immOf w)) ∧
  (∀ s cofun, Traps (.cop2 cofun) s 11#5 2#2) ∧
  (∀ s rt base offset, Traps (.lwc2 rt base offset) s 11#5 2#2) ∧
  (∀ s rt base offset, Traps (.ldc2 rt base offset) s 11#5 2#2) ∧
  (∀ s rt base offset, Traps (.swc2 rt base offset) s 11#5 2#2) ∧
  (∀ s rt base offset, Traps (.sdc2 rt base offset) s 11#5 2#2)

/-- The twelve trap instructions: Tr exactly when the condition holds, else nothing (R312, R313, R314, R315, R316,
R317, R327, R328, R329, R330, R331, R332). -/
def Obligations.TrapInstructions : Prop :=
  Encodes 0x00000030#32 0xFC00003F#32 (fun w => .tge (rsOf w) (rtOf w) (code10 w)) ∧
  Encodes 0x00000031#32 0xFC00003F#32 (fun w => .tgeu (rsOf w) (rtOf w) (code10 w)) ∧
  Encodes 0x00000032#32 0xFC00003F#32 (fun w => .tlt (rsOf w) (rtOf w) (code10 w)) ∧
  Encodes 0x00000033#32 0xFC00003F#32 (fun w => .tltu (rsOf w) (rtOf w) (code10 w)) ∧
  Encodes 0x00000034#32 0xFC00003F#32 (fun w => .teq (rsOf w) (rtOf w) (code10 w)) ∧
  Encodes 0x00000036#32 0xFC00003F#32 (fun w => .tne (rsOf w) (rtOf w) (code10 w)) ∧
  Encodes 0x04080000#32 0xFC1F0000#32 (fun w => .tgei (rsOf w) (immOf w)) ∧
  Encodes 0x04090000#32 0xFC1F0000#32 (fun w => .tgeiu (rsOf w) (immOf w)) ∧
  Encodes 0x040A0000#32 0xFC1F0000#32 (fun w => .tlti (rsOf w) (immOf w)) ∧
  Encodes 0x040B0000#32 0xFC1F0000#32 (fun w => .tltiu (rsOf w) (immOf w)) ∧
  Encodes 0x040C0000#32 0xFC1F0000#32 (fun w => .teqi (rsOf w) (immOf w)) ∧
  Encodes 0x040E0000#32 0xFC1F0000#32 (fun w => .tnei (rsOf w) (immOf w)) ∧
  (∀ s rs rt code, TrapsIf ((s.x rt).toInt ≤ (s.x rs).toInt) (.tge rs rt code) s) ∧
  (∀ s rs rt code, TrapsIf ((s.x rt).toNat ≤ (s.x rs).toNat) (.tgeu rs rt code) s) ∧
  (∀ s rs rt code, TrapsIf ((s.x rs).toInt < (s.x rt).toInt) (.tlt rs rt code) s) ∧
  (∀ s rs rt code, TrapsIf ((s.x rs).toNat < (s.x rt).toNat) (.tltu rs rt code) s) ∧
  (∀ s rs rt code, TrapsIf (s.x rs = s.x rt) (.teq rs rt code) s) ∧
  (∀ s rs rt code, TrapsIf (s.x rs ≠ s.x rt) (.tne rs rt code) s) ∧
  (∀ s rs imm, TrapsIf (imm.toInt ≤ (s.x rs).toInt) (.tgei rs imm) s) ∧
  (∀ s rs imm, TrapsIf ((BitVec.ofInt 32 imm.toInt).toNat ≤ (s.x rs).toNat) (.tgeiu rs imm) s) ∧
  (∀ s rs imm, TrapsIf ((s.x rs).toInt < imm.toInt) (.tlti rs imm) s) ∧
  (∀ s rs imm, TrapsIf ((s.x rs).toNat < (BitVec.ofInt 32 imm.toInt).toNat) (.tltiu rs imm) s) ∧
  (∀ s rs imm, TrapsIf ((s.x rs).toInt = imm.toInt) (.teqi rs imm) s) ∧
  (∀ s rs imm, TrapsIf ((s.x rs).toInt ≠ imm.toInt) (.tnei rs imm) s)

/-- MFC0, MTC0 and ERET: the registers moved, the return, the frames (R319, R320, R322). -/
def Obligations.Cp0Instructions : Prop :=
  Encodes 0x40000000#32 0xFFE00000#32 (fun w => .mfc0 (rtOf w) (rdOf w)) ∧
  Encodes 0x40800000#32 0xFFE00000#32 (fun w => .mtc0 (rtOf w) (rdOf w)) ∧
  (∀ s rt rd, WritesX (.mfc0 rt rd) s rt (s.cp0 rd)) ∧
  (∀ s rt rd, Completes (.mtc0 rt rd) s [.cp0 rd] (fun t => t.cp0 rd = s.x rt)) ∧
  Encodes 0x42000018#32 0xFE00003F#32 (fun _ => .eret) ∧
  (∀ s, s.cpu.delay = .none → statusERL s.status = true →
    Transfers .eret s (s.cp0 30) .none [.cp0 12, .llbit] (fun t =>
      t.cpu.llbit = false ∧ ∀ n, bitAt t.status n = (decide (n ≠ 2) && bitAt s.status n))) ∧
  (∀ s, s.cpu.delay = .none → statusERL s.status = false →
    Transfers .eret s (s.cp0 14) .none [.cp0 12, .llbit] (fun t =>
      t.cpu.llbit = false ∧ ∀ n, bitAt t.status n = (decide (n ≠ 1) && bitAt s.status n))) ∧
  (∀ s, s.cpu.delay ≠ .none → exec .eret s = .refused .controlTransferInDelaySlot)

/-- MFC1, MTC1, CFC1 and CTC1: CheckCU1, the move, CTC1's FPE and the frame (R345, R346, R347, R348). -/
def Obligations.FpuMoves : Prop :=
  Encodes 0x44000000#32 0xFFE00000#32 (fun w => .mfc1 (rtOf w) (rdOf w)) ∧
  Encodes 0x44800000#32 0xFFE00000#32 (fun w => .mtc1 (rtOf w) (rdOf w)) ∧
  Encodes 0x44400000#32 0xFFE00000#32 (fun w => .cfc1 (rtOf w) (rdOf w)) ∧
  Encodes 0x44C00000#32 0xFFE00000#32 (fun w => .ctc1 (rtOf w) (rdOf w)) ∧
  (∀ s rt fs, NeedsCU1 (.mfc1 rt fs) s (WritesX (.mfc1 rt fs) s rt ((s.fpr fs).extractLsb' 0 32))) ∧
  (∀ s rt fs, NeedsCU1 (.mtc1 rt fs) s (Completes (.mtc1 rt fs) s [.fpr fs] (fun t =>
    (t.fpr fs).extractLsb' 0 32 = s.x rt ∧ (t.fpr fs).extractLsb' 32 32 = (s.fpr fs).extractLsb' 32 32))) ∧
  (∀ s rt fs, NeedsCU1 (.cfc1 rt fs) s (WritesX (.cfc1 rt fs) s rt (s.fcr fs))) ∧
  (∀ s rt fs, NeedsCU1 (.ctc1 rt fs) s (
    (fs = 31 ∧ (bitAt (s.x rt) 17 = true ∨ ∃ n, n < 5 ∧ bitAt (s.x rt) (12 + n) = true ∧ bitAt (s.x rt) (7 + n) = true) →
      ∃ t, exec (.ctc1 rt fs) s = .next t ∧ TrapTaken 15#5 0#2 s t ∧ Counted s t ∧
        OnlyChanges (.fcr fs :: trapParts) s t ∧ t.fcr fs = s.x rt) ∧
    (¬ (fs = 31 ∧ (bitAt (s.x rt) 17 = true ∨ ∃ n, n < 5 ∧ bitAt (s.x rt) (12 + n) = true ∧ bitAt (s.x rt) (7 + n) = true)) →
      Completes (.ctc1 rt fs) s [.fcr fs] (fun t => t.fcr fs = s.x rt))))

/-- LWC1, SWC1, LDC1 and SDC1: CheckCU1 before any access, the bytes moved, the frame (R349, R350, R351, R352). -/
def Obligations.FpuLoadsAndStores : Prop :=
  Encodes 0xC4000000#32 0xFC000000#32 (fun w => .lwc1 (rtOf w) (rsOf w) (immOf w)) ∧
  Encodes 0xE4000000#32 0xFC000000#32 (fun w => .swc1 (rtOf w) (rsOf w) (immOf w)) ∧
  Encodes 0xD4000000#32 0xFC000000#32 (fun w => .ldc1 (rtOf w) (rsOf w) (immOf w)) ∧
  Encodes 0xF4000000#32 0xFC000000#32 (fun w => .sdc1 (rtOf w) (rsOf w) (immOf w)) ∧
  (∀ s ft base offset, NeedsCU1 (.lwc1 ft base offset) s
    (LoadsFpr (.lwc1 ft base offset) s ft (addressAt s base offset) 32 4 (fun v => lowHalf s ft v))) ∧
  (∀ s ft base offset, MemoryOk s → NeedsCU1 (.swc1 ft base offset) s
    (StoresAt (.swc1 ft base offset) s (addressAt s base offset) 4 (s.fpr ft) [] (fun _ => True))) ∧
  (∀ s ft base offset, NeedsCU1 (.ldc1 ft base offset) s
    (LoadsFpr (.ldc1 ft base offset) s ft (addressAt s base offset) 64 8 (fun v => v))) ∧
  (∀ s ft base offset, MemoryOk s → NeedsCU1 (.sdc1 ft base offset) s
    (StoresAt (.sdc1 ft base offset) s (addressAt s base offset) 8 (s.fpr ft) [] (fun _ => True)))

/-- BC1F, BC1T, BC1FL and BC1TL: CheckCU1, the condition bit, the delay slot and the frame (R353, R354, R355, R356).
-/
def Obligations.FpuBranches : Prop :=
  Encodes 0x45000000#32 0xFFE30000#32 (fun w => .bc1f (immOf w)) ∧
  Encodes 0x45010000#32 0xFFE30000#32 (fun w => .bc1t (immOf w)) ∧
  Encodes 0x45020000#32 0xFFE30000#32 (fun w => .bc1fl (immOf w)) ∧
  Encodes 0x45030000#32 0xFFE30000#32 (fun w => .bc1tl (immOf w)) ∧
  (∀ s offset, s.cpu.delay = .none → NeedsCU1 (.bc1f offset) s
    (Branches (bitAt s.fcsr 23 = false) false (.bc1f offset) s (targetAt s offset) [] (fun _ => True))) ∧
  (∀ s offset, s.cpu.delay = .none → NeedsCU1 (.bc1t offset) s
    (Branches (bitAt s.fcsr 23 = true) false (.bc1t offset) s (targetAt s offset) [] (fun _ => True))) ∧
  (∀ s offset, s.cpu.delay = .none → NeedsCU1 (.bc1fl offset) s
    (Branches (bitAt s.fcsr 23 = false) true (.bc1fl offset) s (targetAt s offset) [] (fun _ => True))) ∧
  (∀ s offset, s.cpu.delay = .none → NeedsCU1 (.bc1tl offset) s
    (Branches (bitAt s.fcsr 23 = true) true (.bc1tl offset) s (targetAt s offset) [] (fun _ => True)))

/-- Every FPU word with Status.CU1 = 0 raises CpU(1) and does nothing else (46_fpu_move.md R340, 46_fpu_move.md R344).
-/
def Obligations.CheckCU1First : Prop :=
  ∀ (w : Word) (s : State), FpuWord w → statusCU1 s.status = false →
    (opcodeOf w = 0x11#6 ∧ rsBits w = 8#5 → s.cpu.delay = .none) →
    RaisesOnly (executeOne w s) s 11#5 1#2

/-- ADD, SUB, MUL, DIV and SQRT: CheckCU1, FPFinish, the destination view and the frame (47_fpu_arith.md R366,
47_fpu_arith.md R368, 47_fpu_arith.md R369, 47_fpu_arith.md R370, 47_fpu_arith.md R371, 47_fpu_arith.md R372). -/
def Obligations.FpArithmeticFinishes : Prop :=
  Encodes 0x46000000#32 0xFFE0003F#32 (fun w => .addS (saOf w) (rdOf w) (rtOf w)) ∧
  Encodes 0x46000001#32 0xFFE0003F#32 (fun w => .subS (saOf w) (rdOf w) (rtOf w)) ∧
  Encodes 0x46000002#32 0xFFE0003F#32 (fun w => .mulS (saOf w) (rdOf w) (rtOf w)) ∧
  Encodes 0x46000003#32 0xFFE0003F#32 (fun w => .divS (saOf w) (rdOf w) (rtOf w)) ∧
  Encodes 0x46000004#32 0xFFE0003F#32 (fun w => .sqrtS (saOf w) (rdOf w)) ∧
  Encodes 0x46200000#32 0xFFE0003F#32 (fun w => .addD (saOf w) (rdOf w) (rtOf w)) ∧
  Encodes 0x46200001#32 0xFFE0003F#32 (fun w => .subD (saOf w) (rdOf w) (rtOf w)) ∧
  Encodes 0x46200002#32 0xFFE0003F#32 (fun w => .mulD (saOf w) (rdOf w) (rtOf w)) ∧
  Encodes 0x46200003#32 0xFFE0003F#32 (fun w => .divD (saOf w) (rdOf w) (rtOf w)) ∧
  Encodes 0x46200004#32 0xFFE0003F#32 (fun w => .sqrtD (saOf w) (rdOf w)) ∧
  (∀ s fd fs ft,
    let r := fpAdd .single s.rounding (s.fpValue .single fs) (s.fpValue .single ft)
    FpComputes (.addS fd fs ft) s r.cause fd (viewResult s .single fd r.bits)) ∧
  (∀ s fd fs ft,
    let r := fpSub .single s.rounding (s.fpValue .single fs) (s.fpValue .single ft)
    FpComputes (.subS fd fs ft) s r.cause fd (viewResult s .single fd r.bits)) ∧
  (∀ s fd fs ft,
    let r := fpMul .single s.rounding (s.fpValue .single fs) (s.fpValue .single ft)
    FpComputes (.mulS fd fs ft) s r.cause fd (viewResult s .single fd r.bits)) ∧
  (∀ s fd fs ft,
    let r := fpDiv .single s.rounding (s.fpValue .single fs) (s.fpValue .single ft)
    FpComputes (.divS fd fs ft) s r.cause fd (viewResult s .single fd r.bits)) ∧
  (∀ s fd fs,
    let r := fpSqrt .single s.rounding (s.fpValue .single fs)
    FpComputes (.sqrtS fd fs) s r.cause fd (viewResult s .single fd r.bits)) ∧
  (∀ s fd fs ft,
    let r := fpAdd .double s.rounding (s.fpValue .double fs) (s.fpValue .double ft)
    FpComputes (.addD fd fs ft) s r.cause fd (viewResult s .double fd r.bits)) ∧
  (∀ s fd fs ft,
    let r := fpSub .double s.rounding (s.fpValue .double fs) (s.fpValue .double ft)
    FpComputes (.subD fd fs ft) s r.cause fd (viewResult s .double fd r.bits)) ∧
  (∀ s fd fs ft,
    let r := fpMul .double s.rounding (s.fpValue .double fs) (s.fpValue .double ft)
    FpComputes (.mulD fd fs ft) s r.cause fd (viewResult s .double fd r.bits)) ∧
  (∀ s fd fs ft,
    let r := fpDiv .double s.rounding (s.fpValue .double fs) (s.fpValue .double ft)
    FpComputes (.divD fd fs ft) s r.cause fd (viewResult s .double fd r.bits)) ∧
  (∀ s fd fs,
    let r := fpSqrt .double s.rounding (s.fpValue .double fs)
    FpComputes (.sqrtD fd fs) s r.cause fd (viewResult s .double fd r.bits))

/-- ABS, NEG and MOV: the sign bit, NaN operands, FCSR and the frame (R373, R374, R375). -/
def Obligations.FpSignAndMove : Prop :=
  Encodes 0x46000005#32 0xFFE0003F#32 (fun w => .absS (saOf w) (rdOf w)) ∧
  Encodes 0x46000007#32 0xFFE0003F#32 (fun w => .negS (saOf w) (rdOf w)) ∧
  Encodes 0x46000006#32 0xFFE0003F#32 (fun w => .movS (saOf w) (rdOf w)) ∧
  Encodes 0x46200005#32 0xFFE0003F#32 (fun w => .absD (saOf w) (rdOf w)) ∧
  Encodes 0x46200007#32 0xFFE0003F#32 (fun w => .negD (saOf w) (rdOf w)) ∧
  Encodes 0x46200006#32 0xFFE0003F#32 (fun w => .movD (saOf w) (rdOf w)) ∧
  (∀ s fd fs,
    (∀ q, s.fpValue .single fs = .nan q →
      FpComputes (.absS fd fs) s (if q then .invalid else .none) fd (viewResult s .single fd 0x7FBFFFFF)) ∧
    ((∀ q, s.fpValue .single fs ≠ .nan q) →
      FpComputes (.absS fd fs) s .none fd (viewResult s .single fd ((s.fpBits .single fs) % 2 ^ 31)))) ∧
  (∀ s fd fs,
    (∀ q, s.fpValue .single fs = .nan q →
      FpComputes (.negS fd fs) s (if q then .invalid else .none) fd (viewResult s .single fd 0x7FBFFFFF)) ∧
    ((∀ q, s.fpValue .single fs ≠ .nan q) →
      FpComputes (.negS fd fs) s .none fd (viewResult s .single fd ((s.fpBits .single fs + 2 ^ 31) % 2 ^ 32)))) ∧
  (∀ s fd fs, NeedsCU1 (.movS fd fs) s (Completes (.movS fd fs) s [.fpr fd] (fun t =>
    t.fpr fd = lowHalf s fd ((s.fpr fs).extractLsb' 0 32)))) ∧
  (∀ s fd fs,
    (∀ q, s.fpValue .double fs = .nan q →
      FpComputes (.absD fd fs) s (if q then .invalid else .none) fd (viewResult s .double fd 0x7FF7FFFFFFFFFFFF)) ∧
    ((∀ q, s.fpValue .double fs ≠ .nan q) →
      FpComputes (.absD fd fs) s .none fd (viewResult s .double fd ((s.fpBits .double fs) % 2 ^ 63)))) ∧
  (∀ s fd fs,
    (∀ q, s.fpValue .double fs = .nan q →
      FpComputes (.negD fd fs) s (if q then .invalid else .none) fd (viewResult s .double fd 0x7FF7FFFFFFFFFFFF)) ∧
    ((∀ q, s.fpValue .double fs ≠ .nan q) →
      FpComputes (.negD fd fs) s .none fd (viewResult s .double fd ((s.fpBits .double fs + 2 ^ 63) % 2 ^ 64)))) ∧
  (∀ s fd fs, NeedsCU1 (.movD fd fs) s (Completes (.movD fd fs) s [.fpr fd] (fun t =>
    t.fpr fd = s.fpr fs)))

/-- The conversions to W and L: the rounded integer, V out of range, FPFinish and the frame (R376, R377, R378, R379,
R380, R381, R382, R383, R387, R388, R389). -/
def Obligations.FpToInteger : Prop :=
  Encodes 0x4600000C#32 0xFFE0003F#32 (fun w => .roundWS (saOf w) (rdOf w)) ∧
  Encodes 0x46000008#32 0xFFE0003F#32 (fun w => .roundLS (saOf w) (rdOf w)) ∧
  Encodes 0x4600000D#32 0xFFE0003F#32 (fun w => .truncWS (saOf w) (rdOf w)) ∧
  Encodes 0x46000009#32 0xFFE0003F#32 (fun w => .truncLS (saOf w) (rdOf w)) ∧
  Encodes 0x4600000E#32 0xFFE0003F#32 (fun w => .ceilWS (saOf w) (rdOf w)) ∧
  Encodes 0x4600000A#32 0xFFE0003F#32 (fun w => .ceilLS (saOf w) (rdOf w)) ∧
  Encodes 0x4600000F#32 0xFFE0003F#32 (fun w => .floorWS (saOf w) (rdOf w)) ∧
  Encodes 0x4600000B#32 0xFFE0003F#32 (fun w => .floorLS (saOf w) (rdOf w)) ∧
  Encodes 0x46000024#32 0xFFE0003F#32 (fun w => .cvtWS (saOf w) (rdOf w)) ∧
  Encodes 0x46000025#32 0xFFE0003F#32 (fun w => .cvtLS (saOf w) (rdOf w)) ∧
  Encodes 0x4620000C#32 0xFFE0003F#32 (fun w => .roundWD (saOf w) (rdOf w)) ∧
  Encodes 0x46200008#32 0xFFE0003F#32 (fun w => .roundLD (saOf w) (rdOf w)) ∧
  Encodes 0x4620000D#32 0xFFE0003F#32 (fun w => .truncWD (saOf w) (rdOf w)) ∧
  Encodes 0x46200009#32 0xFFE0003F#32 (fun w => .truncLD (saOf w) (rdOf w)) ∧
  Encodes 0x4620000E#32 0xFFE0003F#32 (fun w => .ceilWD (saOf w) (rdOf w)) ∧
  Encodes 0x4620000A#32 0xFFE0003F#32 (fun w => .ceilLD (saOf w) (rdOf w)) ∧
  Encodes 0x4620000F#32 0xFFE0003F#32 (fun w => .floorWD (saOf w) (rdOf w)) ∧
  Encodes 0x4620000B#32 0xFFE0003F#32 (fun w => .floorLD (saOf w) (rdOf w)) ∧
  Encodes 0x46200024#32 0xFFE0003F#32 (fun w => .cvtWD (saOf w) (rdOf w)) ∧
  Encodes 0x46200025#32 0xFFE0003F#32 (fun w => .cvtLD (saOf w) (rdOf w)) ∧
  (∀ s fd fs, ∃ r, IntegerRule .nearest 32 (s.fpValue .single fs) r ∧
    FpComputes (.roundWS fd fs) s r.cause fd (lowHalf s fd (BitVec.ofNat 32 r.bits))) ∧
  (∀ s fd fs, ∃ r, IntegerRule .nearest 64 (s.fpValue .single fs) r ∧
    FpComputes (.roundLS fd fs) s r.cause fd (BitVec.ofNat 64 r.bits)) ∧
  (∀ s fd fs, ∃ r, IntegerRule .zero 32 (s.fpValue .single fs) r ∧
    FpComputes (.truncWS fd fs) s r.cause fd (lowHalf s fd (BitVec.ofNat 32 r.bits))) ∧
  (∀ s fd fs, ∃ r, IntegerRule .zero 64 (s.fpValue .single fs) r ∧
    FpComputes (.truncLS fd fs) s r.cause fd (BitVec.ofNat 64 r.bits)) ∧
  (∀ s fd fs, ∃ r, IntegerRule .up 32 (s.fpValue .single fs) r ∧
    FpComputes (.ceilWS fd fs) s r.cause fd (lowHalf s fd (BitVec.ofNat 32 r.bits))) ∧
  (∀ s fd fs, ∃ r, IntegerRule .up 64 (s.fpValue .single fs) r ∧
    FpComputes (.ceilLS fd fs) s r.cause fd (BitVec.ofNat 64 r.bits)) ∧
  (∀ s fd fs, ∃ r, IntegerRule .down 32 (s.fpValue .single fs) r ∧
    FpComputes (.floorWS fd fs) s r.cause fd (lowHalf s fd (BitVec.ofNat 32 r.bits))) ∧
  (∀ s fd fs, ∃ r, IntegerRule .down 64 (s.fpValue .single fs) r ∧
    FpComputes (.floorLS fd fs) s r.cause fd (BitVec.ofNat 64 r.bits)) ∧
  (∀ s fd fs, ∃ r, IntegerRule s.rounding 32 (s.fpValue .single fs) r ∧
    FpComputes (.cvtWS fd fs) s r.cause fd (lowHalf s fd (BitVec.ofNat 32 r.bits))) ∧
  (∀ s fd fs, ∃ r, IntegerRule s.rounding 64 (s.fpValue .single fs) r ∧
    FpComputes (.cvtLS fd fs) s r.cause fd (BitVec.ofNat 64 r.bits)) ∧
  (∀ s fd fs, ∃ r, IntegerRule .nearest 32 (s.fpValue .double fs) r ∧
    FpComputes (.roundWD fd fs) s r.cause fd (lowHalf s fd (BitVec.ofNat 32 r.bits))) ∧
  (∀ s fd fs, ∃ r, IntegerRule .nearest 64 (s.fpValue .double fs) r ∧
    FpComputes (.roundLD fd fs) s r.cause fd (BitVec.ofNat 64 r.bits)) ∧
  (∀ s fd fs, ∃ r, IntegerRule .zero 32 (s.fpValue .double fs) r ∧
    FpComputes (.truncWD fd fs) s r.cause fd (lowHalf s fd (BitVec.ofNat 32 r.bits))) ∧
  (∀ s fd fs, ∃ r, IntegerRule .zero 64 (s.fpValue .double fs) r ∧
    FpComputes (.truncLD fd fs) s r.cause fd (BitVec.ofNat 64 r.bits)) ∧
  (∀ s fd fs, ∃ r, IntegerRule .up 32 (s.fpValue .double fs) r ∧
    FpComputes (.ceilWD fd fs) s r.cause fd (lowHalf s fd (BitVec.ofNat 32 r.bits))) ∧
  (∀ s fd fs, ∃ r, IntegerRule .up 64 (s.fpValue .double fs) r ∧
    FpComputes (.ceilLD fd fs) s r.cause fd (BitVec.ofNat 64 r.bits)) ∧
  (∀ s fd fs, ∃ r, IntegerRule .down 32 (s.fpValue .double fs) r ∧
    FpComputes (.floorWD fd fs) s r.cause fd (lowHalf s fd (BitVec.ofNat 32 r.bits))) ∧
  (∀ s fd fs, ∃ r, IntegerRule .down 64 (s.fpValue .double fs) r ∧
    FpComputes (.floorLD fd fs) s r.cause fd (BitVec.ofNat 64 r.bits)) ∧
  (∀ s fd fs, ∃ r, IntegerRule s.rounding 32 (s.fpValue .double fs) r ∧
    FpComputes (.cvtWD fd fs) s r.cause fd (lowHalf s fd (BitVec.ofNat 32 r.bits))) ∧
  (∀ s fd fs, ∃ r, IntegerRule s.rounding 64 (s.fpValue .double fs) r ∧
    FpComputes (.cvtLD fd fs) s r.cause fd (BitVec.ofNat 64 r.bits))

/-- CVT.S and CVT.D: the correctly rounded value, NaN and infinity, FPFinish and the frame (R385, R386). -/
def Obligations.FpToFloat : Prop :=
  Encodes 0x46200020#32 0xFFE0003F#32 (fun w => .cvtSD (saOf w) (rdOf w)) ∧
  Encodes 0x46000021#32 0xFFE0003F#32 (fun w => .cvtDS (saOf w) (rdOf w)) ∧
  Encodes 0x46800020#32 0xFFE0003F#32 (fun w => .cvtSW (saOf w) (rdOf w)) ∧
  Encodes 0x46A00020#32 0xFFE0003F#32 (fun w => .cvtSL (saOf w) (rdOf w)) ∧
  Encodes 0x46800021#32 0xFFE0003F#32 (fun w => .cvtDW (saOf w) (rdOf w)) ∧
  Encodes 0x46A00021#32 0xFFE0003F#32 (fun w => .cvtDL (saOf w) (rdOf w)) ∧
  (∀ s fd fs, ∃ r, FpComputes (.cvtSD fd fs) s r.cause fd (viewResult s .single fd r.bits) ∧
    (∀ q, s.fpValue .double fs = .nan q → NanRule .single q r) ∧
    (∀ neg, s.fpValue .double fs = .inf neg → ExactRule (infBits .single neg) r) ∧
    (∀ neg mant exp x, s.fpValue .double fs = .finite neg mant exp → (s.fpValue .double fs).real = some x →
      ConvertRule .single s.rounding neg x r)) ∧
  (∀ s fd fs, ∃ r, FpComputes (.cvtDS fd fs) s r.cause fd (viewResult s .double fd r.bits) ∧
    (∀ q, s.fpValue .single fs = .nan q → NanRule .double q r) ∧
    (∀ neg, s.fpValue .single fs = .inf neg → ExactRule (infBits .double neg) r) ∧
    (∀ neg mant exp x, s.fpValue .single fs = .finite neg mant exp → (s.fpValue .single fs).real = some x →
      ConvertRule .double s.rounding neg x r)) ∧
  (∀ s fd fs, ∃ r, FpComputes (.cvtSW fd fs) s r.cause fd (viewResult s .single fd r.bits) ∧
    ConvertRule .single s.rounding false ((s.viewW fs).toInt : ℝ) r) ∧
  (∀ s fd fs, ∃ r, FpComputes (.cvtSL fd fs) s r.cause fd (viewResult s .single fd r.bits) ∧
    ConvertRule .single s.rounding false ((s.viewD fs).toInt : ℝ) r) ∧
  (∀ s fd fs, ∃ r, FpComputes (.cvtDW fd fs) s r.cause fd (viewResult s .double fd r.bits) ∧
    ConvertRule .double s.rounding false ((s.viewW fs).toInt : ℝ) r) ∧
  (∀ s fd fs, ∃ r, FpComputes (.cvtDL fd fs) s r.cause fd (viewResult s .double fd r.bits) ∧
    ConvertRule .double s.rounding false ((s.viewD fs).toInt : ℝ) r)

/-- C.cond: the relation of the real values, unordered operands, FPFinish and FCSR.C (R384). -/
def Obligations.FpCompare : Prop :=
  Encodes 0x46000030#32 0xFFE0003F#32 (fun w => .cFS (rdOf w) (rtOf w)) ∧
  Encodes 0x46000031#32 0xFFE0003F#32 (fun w => .cUnS (rdOf w) (rtOf w)) ∧
  Encodes 0x46000032#32 0xFFE0003F#32 (fun w => .cEqS (rdOf w) (rtOf w)) ∧
  Encodes 0x46000033#32 0xFFE0003F#32 (fun w => .cUeqS (rdOf w) (rtOf w)) ∧
  Encodes 0x46000034#32 0xFFE0003F#32 (fun w => .cOltS (rdOf w) (rtOf w)) ∧
  Encodes 0x46000035#32 0xFFE0003F#32 (fun w => .cUltS (rdOf w) (rtOf w)) ∧
  Encodes 0x46000036#32 0xFFE0003F#32 (fun w => .cOleS (rdOf w) (rtOf w)) ∧
  Encodes 0x46000037#32 0xFFE0003F#32 (fun w => .cUleS (rdOf w) (rtOf w)) ∧
  Encodes 0x46000038#32 0xFFE0003F#32 (fun w => .cSfS (rdOf w) (rtOf w)) ∧
  Encodes 0x46000039#32 0xFFE0003F#32 (fun w => .cNgleS (rdOf w) (rtOf w)) ∧
  Encodes 0x4600003A#32 0xFFE0003F#32 (fun w => .cSeqS (rdOf w) (rtOf w)) ∧
  Encodes 0x4600003B#32 0xFFE0003F#32 (fun w => .cNglS (rdOf w) (rtOf w)) ∧
  Encodes 0x4600003C#32 0xFFE0003F#32 (fun w => .cLtS (rdOf w) (rtOf w)) ∧
  Encodes 0x4600003D#32 0xFFE0003F#32 (fun w => .cNgeS (rdOf w) (rtOf w)) ∧
  Encodes 0x4600003E#32 0xFFE0003F#32 (fun w => .cLeS (rdOf w) (rtOf w)) ∧
  Encodes 0x4600003F#32 0xFFE0003F#32 (fun w => .cNgtS (rdOf w) (rtOf w)) ∧
  Encodes 0x46200030#32 0xFFE0003F#32 (fun w => .cFD (rdOf w) (rtOf w)) ∧
  Encodes 0x46200031#32 0xFFE0003F#32 (fun w => .cUnD (rdOf w) (rtOf w)) ∧
  Encodes 0x46200032#32 0xFFE0003F#32 (fun w => .cEqD (rdOf w) (rtOf w)) ∧
  Encodes 0x46200033#32 0xFFE0003F#32 (fun w => .cUeqD (rdOf w) (rtOf w)) ∧
  Encodes 0x46200034#32 0xFFE0003F#32 (fun w => .cOltD (rdOf w) (rtOf w)) ∧
  Encodes 0x46200035#32 0xFFE0003F#32 (fun w => .cUltD (rdOf w) (rtOf w)) ∧
  Encodes 0x46200036#32 0xFFE0003F#32 (fun w => .cOleD (rdOf w) (rtOf w)) ∧
  Encodes 0x46200037#32 0xFFE0003F#32 (fun w => .cUleD (rdOf w) (rtOf w)) ∧
  Encodes 0x46200038#32 0xFFE0003F#32 (fun w => .cSfD (rdOf w) (rtOf w)) ∧
  Encodes 0x46200039#32 0xFFE0003F#32 (fun w => .cNgleD (rdOf w) (rtOf w)) ∧
  Encodes 0x4620003A#32 0xFFE0003F#32 (fun w => .cSeqD (rdOf w) (rtOf w)) ∧
  Encodes 0x4620003B#32 0xFFE0003F#32 (fun w => .cNglD (rdOf w) (rtOf w)) ∧
  Encodes 0x4620003C#32 0xFFE0003F#32 (fun w => .cLtD (rdOf w) (rtOf w)) ∧
  Encodes 0x4620003D#32 0xFFE0003F#32 (fun w => .cNgeD (rdOf w) (rtOf w)) ∧
  Encodes 0x4620003E#32 0xFFE0003F#32 (fun w => .cLeD (rdOf w) (rtOf w)) ∧
  Encodes 0x4620003F#32 0xFFE0003F#32 (fun w => .cNgtD (rdOf w) (rtOf w)) ∧
  (∀ s fs ft, ∃ cause c, CompareRule 0#4 (s.fpValue .single fs) (s.fpValue .single ft) cause c ∧
    FpCompares (.cFS fs ft) s cause c) ∧
  (∀ s fs ft, ∃ cause c, CompareRule 1#4 (s.fpValue .single fs) (s.fpValue .single ft) cause c ∧
    FpCompares (.cUnS fs ft) s cause c) ∧
  (∀ s fs ft, ∃ cause c, CompareRule 2#4 (s.fpValue .single fs) (s.fpValue .single ft) cause c ∧
    FpCompares (.cEqS fs ft) s cause c) ∧
  (∀ s fs ft, ∃ cause c, CompareRule 3#4 (s.fpValue .single fs) (s.fpValue .single ft) cause c ∧
    FpCompares (.cUeqS fs ft) s cause c) ∧
  (∀ s fs ft, ∃ cause c, CompareRule 4#4 (s.fpValue .single fs) (s.fpValue .single ft) cause c ∧
    FpCompares (.cOltS fs ft) s cause c) ∧
  (∀ s fs ft, ∃ cause c, CompareRule 5#4 (s.fpValue .single fs) (s.fpValue .single ft) cause c ∧
    FpCompares (.cUltS fs ft) s cause c) ∧
  (∀ s fs ft, ∃ cause c, CompareRule 6#4 (s.fpValue .single fs) (s.fpValue .single ft) cause c ∧
    FpCompares (.cOleS fs ft) s cause c) ∧
  (∀ s fs ft, ∃ cause c, CompareRule 7#4 (s.fpValue .single fs) (s.fpValue .single ft) cause c ∧
    FpCompares (.cUleS fs ft) s cause c) ∧
  (∀ s fs ft, ∃ cause c, CompareRule 8#4 (s.fpValue .single fs) (s.fpValue .single ft) cause c ∧
    FpCompares (.cSfS fs ft) s cause c) ∧
  (∀ s fs ft, ∃ cause c, CompareRule 9#4 (s.fpValue .single fs) (s.fpValue .single ft) cause c ∧
    FpCompares (.cNgleS fs ft) s cause c) ∧
  (∀ s fs ft, ∃ cause c, CompareRule 10#4 (s.fpValue .single fs) (s.fpValue .single ft) cause c ∧
    FpCompares (.cSeqS fs ft) s cause c) ∧
  (∀ s fs ft, ∃ cause c, CompareRule 11#4 (s.fpValue .single fs) (s.fpValue .single ft) cause c ∧
    FpCompares (.cNglS fs ft) s cause c) ∧
  (∀ s fs ft, ∃ cause c, CompareRule 12#4 (s.fpValue .single fs) (s.fpValue .single ft) cause c ∧
    FpCompares (.cLtS fs ft) s cause c) ∧
  (∀ s fs ft, ∃ cause c, CompareRule 13#4 (s.fpValue .single fs) (s.fpValue .single ft) cause c ∧
    FpCompares (.cNgeS fs ft) s cause c) ∧
  (∀ s fs ft, ∃ cause c, CompareRule 14#4 (s.fpValue .single fs) (s.fpValue .single ft) cause c ∧
    FpCompares (.cLeS fs ft) s cause c) ∧
  (∀ s fs ft, ∃ cause c, CompareRule 15#4 (s.fpValue .single fs) (s.fpValue .single ft) cause c ∧
    FpCompares (.cNgtS fs ft) s cause c) ∧
  (∀ s fs ft, ∃ cause c, CompareRule 0#4 (s.fpValue .double fs) (s.fpValue .double ft) cause c ∧
    FpCompares (.cFD fs ft) s cause c) ∧
  (∀ s fs ft, ∃ cause c, CompareRule 1#4 (s.fpValue .double fs) (s.fpValue .double ft) cause c ∧
    FpCompares (.cUnD fs ft) s cause c) ∧
  (∀ s fs ft, ∃ cause c, CompareRule 2#4 (s.fpValue .double fs) (s.fpValue .double ft) cause c ∧
    FpCompares (.cEqD fs ft) s cause c) ∧
  (∀ s fs ft, ∃ cause c, CompareRule 3#4 (s.fpValue .double fs) (s.fpValue .double ft) cause c ∧
    FpCompares (.cUeqD fs ft) s cause c) ∧
  (∀ s fs ft, ∃ cause c, CompareRule 4#4 (s.fpValue .double fs) (s.fpValue .double ft) cause c ∧
    FpCompares (.cOltD fs ft) s cause c) ∧
  (∀ s fs ft, ∃ cause c, CompareRule 5#4 (s.fpValue .double fs) (s.fpValue .double ft) cause c ∧
    FpCompares (.cUltD fs ft) s cause c) ∧
  (∀ s fs ft, ∃ cause c, CompareRule 6#4 (s.fpValue .double fs) (s.fpValue .double ft) cause c ∧
    FpCompares (.cOleD fs ft) s cause c) ∧
  (∀ s fs ft, ∃ cause c, CompareRule 7#4 (s.fpValue .double fs) (s.fpValue .double ft) cause c ∧
    FpCompares (.cUleD fs ft) s cause c) ∧
  (∀ s fs ft, ∃ cause c, CompareRule 8#4 (s.fpValue .double fs) (s.fpValue .double ft) cause c ∧
    FpCompares (.cSfD fs ft) s cause c) ∧
  (∀ s fs ft, ∃ cause c, CompareRule 9#4 (s.fpValue .double fs) (s.fpValue .double ft) cause c ∧
    FpCompares (.cNgleD fs ft) s cause c) ∧
  (∀ s fs ft, ∃ cause c, CompareRule 10#4 (s.fpValue .double fs) (s.fpValue .double ft) cause c ∧
    FpCompares (.cSeqD fs ft) s cause c) ∧
  (∀ s fs ft, ∃ cause c, CompareRule 11#4 (s.fpValue .double fs) (s.fpValue .double ft) cause c ∧
    FpCompares (.cNglD fs ft) s cause c) ∧
  (∀ s fs ft, ∃ cause c, CompareRule 12#4 (s.fpValue .double fs) (s.fpValue .double ft) cause c ∧
    FpCompares (.cLtD fs ft) s cause c) ∧
  (∀ s fs ft, ∃ cause c, CompareRule 13#4 (s.fpValue .double fs) (s.fpValue .double ft) cause c ∧
    FpCompares (.cNgeD fs ft) s cause c) ∧
  (∀ s fs ft, ∃ cause c, CompareRule 14#4 (s.fpValue .double fs) (s.fpValue .double ft) cause c ∧
    FpCompares (.cLeD fs ft) s cause c) ∧
  (∀ s fs ft, ∃ cause c, CompareRule 15#4 (s.fpValue .double fs) (s.fpValue .double ft) cause c ∧
    FpCompares (.cNgtD fs ft) s cause c)

/-- Addition and subtraction are correctly rounded, with the NaN, infinity and zero rules (47_fpu_arith.md R360,
47_fpu_arith.md R362, 47_fpu_arith.md R363, 47_fpu_arith.md R364, 47_fpu_arith.md R365, 47_fpu_arith.md R367,
47_fpu_arith.md R368, 47_fpu_arith.md R369). -/
def Obligations.FpSums : Prop :=
  ∀ (f : Format) (rm : Rounding) (p q : Nat), p < 2 ^ f.width → q < 2 ^ f.width →
    SumRule f rm (unpack f p) (unpack f q) (fpAdd f rm (unpack f p) (unpack f q)) ∧
    SumRule f rm (unpack f p) (unpack f q).negate (fpSub f rm (unpack f p) (unpack f q))

/-- Multiplication is correctly rounded, with the NaN, infinity and zero rules (47_fpu_arith.md R360, 47_fpu_arith.md
R363, 47_fpu_arith.md R365, 47_fpu_arith.md R367, 47_fpu_arith.md R370). -/
def Obligations.FpProducts : Prop :=
  ∀ (f : Format) (rm : Rounding) (p q : Nat), p < 2 ^ f.width → q < 2 ^ f.width →
    ProductRule f rm (unpack f p) (unpack f q) (fpMul f rm (unpack f p) (unpack f q))

/-- Division is correctly rounded, with Z, V and the infinity and zero rules (47_fpu_arith.md R360, 47_fpu_arith.md
R363, 47_fpu_arith.md R365, 47_fpu_arith.md R367, 47_fpu_arith.md R371). -/
def Obligations.FpQuotients : Prop :=
  ∀ (f : Format) (rm : Rounding) (p q : Nat), p < 2 ^ f.width → q < 2 ^ f.width →
    QuotientRule f rm (unpack f p) (unpack f q) (fpDiv f rm (unpack f p) (unpack f q))

/-- Square root is correctly rounded, with the NaN, negative and zero rules (47_fpu_arith.md R360, 47_fpu_arith.md
R363, 47_fpu_arith.md R365, 47_fpu_arith.md R372). -/
def Obligations.FpRoots : Prop :=
  ∀ (f : Format) (rm : Rounding) (p : Nat), p < 2 ^ f.width →
    RootRule f rm (unpack f p) (fpSqrt f rm (unpack f p))

/-- Trap entry: what it saves, what Status and Cause become, where it goes, what it keeps (R404, R402, R406). -/
def Obligations.TrapEntry : Prop :=
  ∀ (code : BitVec 5) (ce : BitVec 2) (s : State),
    TrapTaken code ce s (trapEntry code ce s) ∧ OnlyChanges trapParts s (trapEntry code ce s) ∧
    (statusEXL s.status = true → (trapEntry code ce s).epc = s.epc ∧
      causeBD (trapEntry code ce s).cause = causeBD s.cause) ∧
    (trapEntry code ce s).ctl = s.ctl

/-- At a boundary: the host's pending exception first, else an unmasked interrupt, else nothing (R412, R414). -/
def Obligations.BoundaryPriority : Prop :=
  ∀ s : State,
    (∀ p, s.ctl.pendingExc = some p →
      TrapTaken p.code p.ce s (boundary s) ∧ (boundary s).ctl = { s.ctl with pendingExc := none } ∧
      OnlyChanges trapParts { s with ctl := { s.ctl with pendingExc := none } } (boundary s)) ∧
    (s.ctl.pendingExc = none →
      (bitAt s.status 0 = true ∧ bitAt s.status 1 = false ∧ bitAt s.status 2 = false ∧
        (∃ n, n < 8 ∧ bitAt s.cause (8 + n) = true ∧ bitAt s.status (8 + n) = true) →
        TrapTaken 0#5 0#2 s (boundary s) ∧ (boundary s).ctl = s.ctl ∧ OnlyChanges trapParts s (boundary s)) ∧
      (¬ (bitAt s.status 0 = true ∧ bitAt s.status 1 = false ∧ bitAt s.status 2 = false ∧
        (∃ n, n < 8 ∧ bitAt s.cause (8 + n) = true ∧ bitAt s.status (8 + n) = true)) → boundary s = s))

/-- A step in Running runs the instruction decoded at pc, between the boundary and the checks of run (40_controller.md
R143, 40_controller.md R156, 40_controller.md R157, notes/assumptions/3.md, notes/assumptions/2.md). -/
def Obligations.StepRunsTheDecodedInstruction : Prop :=
  ∀ (s u b : State) (w : Word) (i : Instr),
    s.ctl.initialized = true → s.mem.memReady = true → s.ctl.runState = .running →
    (s.agenda = [] ∧ u = s ∨ ∃ rest, s.agenda = .yield :: rest ∧ u = { s with agenda := rest }) →
    b = boundary u → b.mem.Holds b.cpu.pc 4 w → decode w = .ok i →
    (∀ t, exec i b.countRead = .next t → step s = .next (afterCycle Config.runCeiling t)) ∧
    (∀ r, exec i b.countRead = .refused r → step s = .refused r)

/-- step() runs exactly one instruction and returns to the run state it came from (40_controller.md R160,
40_controller.md R176, notes/assumptions/2.md, notes/assumptions/4.md, notes/assumptions/5.md). The two steps, the
queue of moves and the record of what is returned are the model's choices (log entries 4, 2 and 5). -/
def Obligations.HostStepRunsOneInstruction : Prop :=
  ∀ (s : State) (rest : List HostMove), s.ctl.initialized = true → s.mem.memReady = true →
    s.agenda = .call .step :: rest →
    (s.ctl.runState = .stopped ∨ s.ctl.runState = .paused →
      ∃ u, step s = .next u ∧ u.ctl.runState = .stepping ∧ u.cpu = s.cpu ∧ u.mem = s.mem ∧
        u.ctl.pendingExc = s.ctl.pendingExc ∧ u.ctl.cycles = s.ctl.cycles ∧ u.agenda = rest ∧
        u.replies = s.replies ∧ u.runCall = s.runCall ∧
        ∀ t, executeOne (boundary u).fetchWord (boundary u).countRead = .next t →
          ∃ v, step u = .next v ∧ v.ctl.runState = s.ctl.runState ∧ v.replies = [.flag true] ∧ v.runCall = s.runCall ∧
            v.cpu = t.cpu ∧ v.mem = t.mem ∧ v.agenda = rest ∧ v.ctl.runCount = s.ctl.runCount ∧
            v.ctl.cycles = s.ctl.cycles + 1#64 ∧ v.ctl.instructions = s.ctl.instructions + 1#64 ∧
            v.ctl.pendingExc = none ∧ v.ctl.bp = s.ctl.bp) ∧
    (s.ctl.runState = .running →
      step s = .next { s with agenda := rest, replies := [.flag false] })

/-- After a cycle of run: a breakpoint at pc pauses, else the ceiling stops, else the run goes on; run returns when
the run ends (40_controller.md R156, 40_controller.md R169, 40_controller.md R168, 40_controller.md R176,
40_controller.md R178, notes/assumptions/5.md). The record of the call and of its return is the model's (log entry 5).
-/
def Obligations.ChecksAfterACycle : Prop :=
  ∀ (ceiling : Option Nat) (s : State),
    (afterCycle ceiling s).ctl.runCount = s.ctl.runCount + 1 ∧
    (s.cpu.pc.toNat < Config.bpTableSize → s.cpu.pc.toNat ∈ s.ctl.bp →
      (afterCycle ceiling s).ctl.runState = .paused) ∧
    (Config.bpTableSize ≤ s.cpu.pc.toNat ∨ s.cpu.pc.toNat ∉ s.ctl.bp →
      (∀ n, ceiling = some n → n ≤ s.ctl.runCount + 1 → (afterCycle ceiling s).ctl.runState = .stopped) ∧
      ((∀ n, ceiling = some n → s.ctl.runCount + 1 < n) →
        (afterCycle ceiling s).ctl.runState = s.ctl.runState)) ∧
    ((afterCycle ceiling s).ctl.runState = .running ∨ s.runCall = none →
      (afterCycle ceiling s).runCall = s.runCall ∧ (afterCycle ceiling s).replies = s.replies) ∧
    (∀ q, (afterCycle ceiling s).ctl.runState ≠ .running → s.runCall = some q →
      (afterCycle ceiling s).runCall = none ∧ (afterCycle ceiling s).replies = [q]) ∧
    (∀ r n c l, { afterCycle ceiling s with
        ctl := { (afterCycle ceiling s).ctl with runState := r, runCount := n }, runCall := c, replies := l } =
      { s with ctl := { s.ctl with runState := r, runCount := n }, runCall := c, replies := l })

/-- Every instruction that is no refused transfer in a slot answers a counted next state (40_controller.md R150,
00_scope.md R12, 40_controller.md R145). -/
def Obligations.EveryInstructionCompletes : Prop :=
  ∀ (i : Instr) (s : State), ¬ (ControlTransfer i ∧ s.cpu.delay ≠ .none) → ∃ t, exec i s = .next t ∧ Counted s t

/-- Outside the control-transfer class an instruction advances or traps, and leaves no slot pending (40_controller.md
R142, 40_controller.md R146, 40_controller.md R149). -/
def Obligations.OnlyTransfersBranch : Prop :=
  ∀ (i : Instr) (s t : State), ¬ ControlTransfer i → exec i s = .next t →
    t.cpu.delay = .none ∧
    (Advances s t ∨ (t.cpu.pc = 0x80000180#32 ∧ statusEXL t.status = true))

/-- What no instruction changes, who writes HI and LO, and who moves llbit (10_state.md R44, 20_memory.md R75,
20_memory.md R76, 10_state.md R21, 10_state.md R24, 44_loadstore.md R298). -/
def Obligations.WholeMachineFrame : Prop :=
  (∀ (i : Instr) (s t : State), exec i s = .next t →
    t.mem.rom = s.mem.rom ∧ t.mem.romLoaded = s.mem.romLoaded ∧ t.mem.maps = s.mem.maps ∧
    t.mem.memReady = s.mem.memReady ∧ t.mem.mmio[0] = s.mem.mmio[0] ∧ t.mem.mmio[7] = s.mem.mmio[7] ∧
    t.ctl = { s.ctl with cycles := t.ctl.cycles, instructions := t.ctl.instructions } ∧
    t.agenda = s.agenda ∧ t.runCall = s.runCall ∧ t.replies = s.replies) ∧
  (∀ (i : Instr) (s t : State), exec i s = .next t →
    ((∀ rs rt, i ≠ .mult rs rt ∧ i ≠ .multu rs rt ∧ i ≠ .div rs rt ∧ i ≠ .divu rs rt ∧ i ≠ .mthi rs ∧ i ≠ .mtlo rs) →
      t.cpu.hi = s.cpu.hi ∧ t.cpu.lo = s.cpu.lo) ∧
    ((∀ rt base offset, i ≠ .ll rt base offset ∧ i ≠ .sc rt base offset ∧ i ≠ .eret) →
      t.cpu.llbit = s.cpu.llbit) ∧
    (∀ rt base offset, i = .ll rt base offset → t.cpu.llbit = true) ∧
    (∀ rt base offset, i = .sc rt base offset ∨ i = .eret → t.cpu.llbit = false))

/-- Every step keeps the invariant (10_state.md R20, 10_state.md R39, 10_state.md R42, 20_memory.md R65, 20_memory.md
R67, 20_memory.md R76, 20_memory.md R80, 40_controller.md R150, notes/assumptions/5.md, notes/assumptions/4.md,
notes/assumptions/11.md, notes/assumptions/16.md). The cell of x[0] (log entry 16), the canonical lists (log entry
11), stepReturn (log entry 4) and the call of run in progress (log entry 5) are the model's choices. -/
def Obligations.InvariantKept : Prop :=
  ∀ s t : State, Inv s → step s = .next t → Inv t

/-- The state after reset meets the invariant (10_state.md R41, 10_state.md R43, notes/assumptions/4.md,
notes/assumptions/11.md, notes/assumptions/16.md, notes/assumptions/5.md). The cell of x[0] (log entry 16), the
canonical lists (log entry 11), the reset value of stepReturn (log entry 4) and the absence of a call of run (log
entry 5) are the model's choices. -/
def Obligations.InvariantAtReset : Prop :=
  Inv State.reset

/-- The execution mode changes no result (40_controller.md R163, 40_controller.md R164, 10_state.md R37). -/
def Obligations.ExecModeIrrelevant : Prop :=
  ∀ (m : ExecMode) (s : State),
    let withMode : State → State := fun u => { u with ctl := { u.ctl with execMode := m } }
    (∀ t, cycle s = .next t → cycle (withMode s) = .next (withMode t)) ∧
    (∀ r, cycle s = .fault r → cycle (withMode s) = .fault r) ∧
    (∀ r, cycle s = .refused r → cycle (withMode s) = .refused r)

/-- A step is FATAL exactly when the block is driven before it is brought up (70_reset_and_hazards.md R444,
40_controller.md R143, 40_controller.md R156, 40_controller.md R160, 70_reset_and_hazards.md R440,
notes/assumptions/2.md, notes/assumptions/4.md, notes/assumptions/14.md, notes/assumptions/22.md). The host's moves
and the yield (log entry 2), Stepping as a turn of its own (log entries 4 and 22) and FATAL as a fault (log entry 14)
are the model's choices. -/
def Obligations.FatalExactly : Prop :=
  ∀ s : State, step s = .fault .fatal ↔
    (s.ready = false ∧ s.ctl.runState = .stepping) ∨
    (s.ready = false ∧ s.ctl.runState = .running ∧ (s.agenda = [] ∨ s.agenda.head? = some .yield)) ∨
    (s.ready = false ∧ s.ctl.runState ≠ .stepping ∧ (s.agenda.head? = some (.call .run) ∨
      s.agenda.head? = some (.call .step) ∨ s.agenda.head? = some (.call (.setRunState .running)))) ∨
    (s.mem.memReady = false ∧ s.ctl.runState ≠ .stepping ∧ s.agenda.head? = some (.call .init))

/-- Translation: the first mapping that contains the address, else identity (R63). -/
def Obligations.Translation : Prop :=
  (∀ (pre post : List Mapping) (m : Mapping) (va : Word),
    (∀ n ∈ pre, ¬ (n.vbase.toNat ≤ va.toNat ∧ va.toNat < n.vbase.toNat + n.size.toNat)) →
    m.vbase.toNat ≤ va.toNat → va.toNat < m.vbase.toNat + m.size.toNat →
    translate (pre ++ m :: post) va = m.pbase + (va - m.vbase) ∧
    (m.pbase.toNat + m.size.toNat ≤ 2 ^ 32 →
      (translate (pre ++ m :: post) va).toNat = m.pbase.toNat + (va.toNat - m.vbase.toNat))) ∧
  (∀ (maps : List Mapping) (va : Word),
    (∀ n ∈ maps, ¬ (n.vbase.toNat ≤ va.toNat ∧ va.toNat < n.vbase.toNat + n.size.toNat)) →
    translate maps va = va)

/-- The virtual memory map after reset (20_memory.md R61, 20_memory.md R64, 20_memory.md R62). -/
def Obligations.InitialMemoryMap : Prop :=
  ∀ va : Word,
    (va.toNat < 0x400000 → State.reset.mem.region va = .dram ∧ (translate initialMaps va).toNat = va.toNat) ∧
    (0x80000000 ≤ va.toNat → va.toNat < 0x80400000 →
      State.reset.mem.region va = .dram ∧ (translate initialMaps va).toNat = va.toNat - 0x80000000) ∧
    (0xA0000000 ≤ va.toNat → va.toNat < 0xA0400000 →
      State.reset.mem.region va = .dram ∧ (translate initialMaps va).toNat = va.toNat - 0xA0000000) ∧
    (0x4000000 ≤ va.toNat → va.toNat < 0x4008000 →
      State.reset.mem.region va = .sram ∧ (translate initialMaps va).toNat = va.toNat) ∧
    (0xC0000000 ≤ va.toNat → State.reset.mem.region va = .mmio) ∧
    (¬ va.toNat < 0x400000 → ¬ (0x80000000 ≤ va.toNat ∧ va.toNat < 0x80400000) →
      ¬ (0xA0000000 ≤ va.toNat ∧ va.toNat < 0xA0400000) → ¬ (0x4000000 ≤ va.toNat ∧ va.toNat < 0x4008000) →
      va.toNat < 0xC0000000 → State.reset.mem.region va = .unmapped ∧ State.reset.mem.byteRead va = 0xFF#8)

/-- A byte written is read back at its place if the place takes writes, and no other byte changes (20_memory.md R70,
20_memory.md R71, 20_memory.md R72, 20_memory.md R73, 20_memory.md R74, 20_memory.md R75). -/
def Obligations.OneByte : Prop :=
  ∀ (s : State) (va a : Word) (b : Byte), MemoryOk s →
    (s.mem.byteWrite va b).byteRead a =
      (if s.mem.placeOf a = s.mem.placeOf va ∧ (s.mem.placeOf va).writable = true then b else s.mem.byteRead a) ∧
    (s.mem.region a = .unmapped → s.mem.byteRead a = 0xFF#8) ∧
    (s.mem.region a = .unmapped ∨ s.mem.region a = .rom → (s.mem.placeOf a).writable = false)

/-- The MMIO block: eight slots, two read-only, all ones elsewhere, whatever the mappings (20_memory.md R76,
20_memory.md R77, 20_memory.md R78, 20_memory.md R79). -/
def Obligations.MmioSlots : Prop :=
  ∀ m : MemSys,
    (∀ (i : Fin 8) (k : Nat), k < 4 →
      m.byteRead (BitVec.ofNat 32 (0xC0000000 + 16 * i.val + k)) = m.mmio[i.val].extractLsb' (24 - 8 * k) 8) ∧
    (∀ (i : Fin 8) (v : Word), 1 ≤ i.val → i.val ≤ 6 →
      (m.writeBytes (BitVec.ofNat 32 (0xC0000000 + 16 * i.val)) (beBytes v 4)).mmio = m.mmio.set i.val v) ∧
    (∀ (va : Word) (b : Byte), 0xC0000000 ≤ va.toNat →
      (∀ i : Nat, 1 ≤ i → i ≤ 6 → ¬ (0xC0000000 + 16 * i ≤ va.toNat ∧ va.toNat < 0xC0000000 + 16 * i + 4)) →
      m.byteWrite va b = m) ∧
    (∀ va : Word, 0xC0000000 ≤ va.toNat →
      (∀ i : Nat, i ≤ 7 → ¬ (0xC0000000 + 16 * i ≤ va.toNat ∧ va.toNat < 0xC0000000 + 16 * i + 4)) →
      m.byteRead va = 0xFF#8)

/-- A word stored is the word loaded, fetched and read by the host; a doubleword stored is the doubleword loaded
(20_memory.md R92, 20_memory.md R97, 20_memory.md R99, 44_loadstore.md R288, 46_fpu_move.md R358). -/
def Obligations.StoreThenFetch : Prop :=
  (∀ (s t : State) (rt base : Reg) (offset : BitVec 16), MemoryOk s → s.mem.Plain (addressAt s base offset) 4 →
    exec (.sw rt base offset) s = .next t →
    t.memValue 32 4 (addressAt s base offset) = s.x rt ∧
    (t.setPc (addressAt s base offset)).fetchWord = s.x rt ∧
    hostOp (.read32 (addressAt s base offset)) t = .ok (.word (s.x rt)) t.countRead ∧
    t.mem.Holds (addressAt s base offset) 4 (s.x rt)) ∧
  (∀ (s t : State) (ft base : Reg) (offset : BitVec 16), MemoryOk s → s.mem.Plain (addressAt s base offset) 8 →
    statusCU1 s.status = true → exec (.sdc1 ft base offset) s = .next t →
    ∀ fj u, exec (.ldc1 fj base offset) t = .next u → u.fpr fj = s.fpr ft)

/-- map appends a valid mapping that overlaps none, unmap removes the first with that base (R65, R66, R67). -/
def Obligations.MapAndUnmap : Prop :=
  (∀ (s : State) (m : Mapping),
    let valid := 1 ≤ m.size.toNat ∧ m.vbase.toNat + m.size.toNat ≤ 2 ^ 32 ∧ m.pbase.toNat + m.size.toNat ≤ 2 ^ 32
    let clear := ∀ n ∈ s.mem.maps, ¬ (m.vbase.toNat < n.vbase.toNat + n.size.toNat ∧
      n.vbase.toNat < m.vbase.toNat + m.size.toNat)
    (valid ∧ clear → hostOp (.map m) s =
      .ok (.flag true) { s with mem := { s.mem with maps := s.mem.maps ++ [m] } }) ∧
    (¬ (valid ∧ clear) → hostOp (.map m) s = .ok (.flag false) s)) ∧
  (∀ (s : State) (pre post : List Mapping) (m : Mapping), (∀ n ∈ pre, n.vbase ≠ m.vbase) →
    s.mem.maps = pre ++ m :: post →
    hostOp (.unmap m.vbase) s = .ok (.flag true) { s with mem := { s.mem with maps := pre ++ post } }) ∧
  (∀ (s : State) (vbase : Word), (∀ n ∈ s.mem.maps, n.vbase ≠ vbase) →
    hostOp (.unmap vbase) s = .ok (.flag false) s)

/-- load_rom replaces the image and its mapping, or changes nothing; the image is then what the CPU reads
(20_memory.md R80, 20_memory.md R81, 20_memory.md R82). -/
def Obligations.LoadRom : Prop :=
  ∀ (s : State) (image : List Byte), Inv s →
    (image.length = 0 ∨ Config.romMaxSize < image.length → hostOp (.loadRom image) s = .ok (.flag false) s) ∧
    ((∃ n ∈ s.mem.maps, n.vbase.toNat ≠ 0x10000000 ∧ 0x10000000 < n.vbase.toNat + n.size.toNat ∧
        n.vbase.toNat < 0x10000000 + image.length) → hostOp (.loadRom image) s = .ok (.flag false) s) ∧
    (0 < image.length → image.length ≤ Config.romMaxSize →
      (∀ n ∈ s.mem.maps, n.vbase.toNat ≠ 0x10000000 →
        ¬ (0x10000000 < n.vbase.toNat + n.size.toNat ∧ n.vbase.toNat < 0x10000000 + image.length)) →
      ∃ t, hostOp (.loadRom image) s = .ok (.flag true) t ∧
        t = { s with mem := { s.mem with
          rom := image
          romLoaded := true
          maps := s.mem.maps.filter (fun n => n.vbase ≠ 0x10000000#32) ++
            [⟨0x10000000#32, 0x10000000#32, BitVec.ofNat 32 image.length⟩] } } ∧
        ∀ i (h : i < image.length), t.mem.byteRead (BitVec.ofNat 32 (0x10000000 + i)) = image[i])

/-- One read or write is counted per access, whatever its width, and by nothing else (20_memory.md R95, 20_memory.md
R86, 20_memory.md R87, 20_memory.md R88, 10_state.md R43). -/
def Obligations.MemoryCounters : Prop :=
  (∀ (i : Instr) (s t : State), exec i s = .next t →
    let loads := ∃ rt base offset, i = .lb rt base offset ∨ i = .lbu rt base offset ∨ i = .lh rt base offset ∨
      i = .lhu rt base offset ∨ i = .lw rt base offset ∨ i = .lwl rt base offset ∨ i = .lwr rt base offset ∨
      i = .ll rt base offset ∨ (statusCU1 s.status = true ∧ (i = .lwc1 rt base offset ∨ i = .ldc1 rt base offset))
    let stores := ∃ rt base offset, i = .sb rt base offset ∨ i = .sh rt base offset ∨ i = .sw rt base offset ∨
      i = .swl rt base offset ∨ i = .swr rt base offset ∨ (s.cpu.llbit = true ∧ i = .sc rt base offset) ∨
      (statusCU1 s.status = true ∧ (i = .swc1 rt base offset ∨ i = .sdc1 rt base offset))
    (loads → t.mem.memReads = s.mem.memReads + 1#64) ∧ (¬ loads → t.mem.memReads = s.mem.memReads) ∧
    (stores → t.mem.memWrites = s.mem.memWrites + 1#64) ∧ (¬ stores → t.mem.memWrites = s.mem.memWrites)) ∧
  (∀ (s : State) (va : Word) (op : HostOp),
    (op = .read8 va ∨ op = .read16 va ∨ op = .read32 va ∨ op = .read64 va → ∃ r t, hostOp op s = .ok r t ∧
      t.mem.memReads = s.mem.memReads + 1#64 ∧ t.mem.memWrites = s.mem.memWrites) ∧
    ((∃ v, op = .write8 va v) ∨ (∃ v, op = .write16 va v) ∨ (∃ v, op = .write32 va v) ∨ (∃ v, op = .write64 va v) →
      ∃ r t, hostOp op s = .ok r t ∧
        t.mem.memWrites = s.mem.memWrites + 1#64 ∧ t.mem.memReads = s.mem.memReads)) ∧
  (∀ (s t : State) (op : HostOp), (∃ r, hostOp op s = .ok r t) ∨ hostOp op s = .entered t →
    (op = .memResetStatistics ∨ op = .memInit → t.mem.memReads = 0#64 ∧ t.mem.memWrites = 0#64) ∧
    ((∀ va, op ≠ .read8 va ∧ op ≠ .read16 va ∧ op ≠ .read32 va ∧ op ≠ .read64 va) →
      (∀ va, (∀ v, op ≠ .write8 va v) ∧ (∀ v, op ≠ .write16 va v) ∧ (∀ v, op ≠ .write32 va v) ∧
        ∀ v, op ≠ .write64 va v) →
      op ≠ .memResetStatistics → op ≠ .memInit →
      t.mem.memReads = s.mem.memReads ∧ t.mem.memWrites = s.mem.memWrites)) ∧
  (∀ (w : Word) (e : Rejection) (s t : State), decode w = .error e → executeOne w s = .next t →
    t.mem.memReads = s.mem.memReads ∧ t.mem.memWrites = s.mem.memWrites) ∧
  (∀ s t : State, controllerTurn s = .next t →
    (s.ctl.runState = .running ∨ s.ctl.runState = .stepping →
      ∃ b u, b.mem.memReads = s.mem.memReads + 1#64 ∧ b.mem.memWrites = s.mem.memWrites ∧
        executeOne (boundary s).fetchWord b = .next u ∧
        t.mem.memReads = u.mem.memReads ∧ t.mem.memWrites = u.mem.memWrites) ∧
    (s.ctl.runState = .stopped ∨ s.ctl.runState = .paused →
      t.mem.memReads = s.mem.memReads ∧ t.mem.memWrites = s.mem.memWrites))

/-- pause, stop, run, set_run_state and get_run_state follow the transition table (40_controller.md R155,
40_controller.md R156, 40_controller.md R158, 40_controller.md R159, 40_controller.md R161, 40_controller.md R162,
40_controller.md R176, notes/assumptions/5.md). The record of a call of run in progress is the model's (log entry 5).
-/
def Obligations.RunStateOperations : Prop :=
  (∀ s : State,
    (s.ctl.runState = .running → ∃ t, hostOp .pause s = .ok .done t ∧ t.ctl.runState = .paused ∧
      t = { s with ctl := { s.ctl with runState := t.ctl.runState } }) ∧
    (s.ctl.runState ≠ .running → hostOp .pause s = .ok .done s) ∧
    (∃ t, hostOp .stop s = .ok .done t ∧ t.ctl.runState = .stopped ∧
      t = { s with ctl := { s.ctl with runState := t.ctl.runState } })) ∧
  (∀ s : State, s.ready = true →
    (s.ctl.runState = .running → hostOp .run s = .ok .done s ∧
      hostOp (.setRunState .running) s = .ok (.flag true) s) ∧
    (s.ctl.runState ≠ .running →
      hostOp .run s = .entered { s with
        ctl := { s.ctl with runState := .running, runCount := 0 }, runCall := some .done } ∧
      hostOp (.setRunState .running) s = .entered { s with
        ctl := { s.ctl with runState := .running, runCount := 0 }, runCall := some (.flag true) }) ∧
    (∀ r, r = .paused ∨ r = .stopped → ∃ t, hostOp (.setRunState r) s = .ok (.flag true) t ∧
      t.ctl.runState = r ∧ t = { s with ctl := { s.ctl with runState := r } }) ∧
    hostOp (.setRunState .stepping) s = .ok (.flag false) s ∧
    hostOp .getRunState s = .ok (.runState s.ctl.runState) s)

/-- The breakpoint table: set, clear and has, inside and beyond its bound (R167, R168). -/
def Obligations.Breakpoints : Prop :=
  ∀ (s : State) (a : Word), Inv s →
    (a.toNat < Config.bpTableSize →
      (∃ t, hostOp (.setBreakpoint a) s = .ok (.flag true) t ∧
        (∀ c, t.hasBreakpoint c = (decide (c = a) || s.hasBreakpoint c)) ∧
        t = { s with ctl := { s.ctl with bp := t.ctl.bp } }) ∧
      (∃ t, hostOp (.clearBreakpoint a) s = .ok (.flag true) t ∧
        (∀ c, t.hasBreakpoint c = (decide (c ≠ a) && s.hasBreakpoint c)) ∧
        t = { s with ctl := { s.ctl with bp := t.ctl.bp } })) ∧
    (Config.bpTableSize ≤ a.toNat →
      hostOp (.setBreakpoint a) s = .ok (.flag false) s ∧ hostOp (.clearBreakpoint a) s = .ok (.flag false) s ∧
      hostOp (.hasBreakpoint a) s = .ok (.flag false) s) ∧
    hostOp (.hasBreakpoint a) s = .ok (.flag (s.hasBreakpoint a)) s

/-- read and write of CP0 and CP1 by the host, with the index checked (R171). -/
def Obligations.CoprocessorAccessors : Prop :=
  ∀ (s : State) (i : Int) (v : Word) (d : DWord),
    (∀ r : Reg, i = (r.val : Int) →
      hostOp (.readCp0 i) s = .ok (.word (s.cp0 r)) s ∧ hostOp (.readCp1 i) s = .ok (.dword (s.fpr r)) s ∧
      (∃ t, hostOp (.writeCp0 i v) s = .ok (.flag true) t ∧ t.cp0 r = v ∧ OnlyChanges [.cp0 r] s t ∧
        t.cpu.pc = s.cpu.pc ∧ t.cpu.delay = s.cpu.delay ∧ t.ctl = s.ctl) ∧
      (∃ t, hostOp (.writeCp1 i d) s = .ok (.flag true) t ∧ t.fpr r = d ∧ OnlyChanges [.fpr r] s t ∧
        t.cpu.pc = s.cpu.pc ∧ t.cpu.delay = s.cpu.delay ∧ t.ctl = s.ctl)) ∧
    (i < 0 ∨ 31 < i →
      hostOp (.readCp0 i) s = .ok (.flag false) s ∧ hostOp (.writeCp0 i v) s = .ok (.flag false) s ∧
      hostOp (.readCp1 i) s = .ok (.flag false) s ∧ hostOp (.writeCp1 i d) s = .ok (.flag false) s)

/-- raise_exception records one pending exception; handle_exception takes it at once (R172, R173). -/
def Obligations.HostExceptions : Prop :=
  ∀ s : State,
    (∀ code ce : Int, s.ctl.pendingExc = none → 0 ≤ code → code ≤ 31 → 0 ≤ ce → ce ≤ 3 →
      ∃ t p, hostOp (.raiseException code ce) s = .ok (.flag true) t ∧ t.ctl.pendingExc = some p ∧
        (p.code.toNat : Int) = code ∧ (p.ce.toNat : Int) = ce ∧
        t = { s with ctl := { s.ctl with pendingExc := some p } } ∧
        TrapTaken p.code p.ce s (boundary t)) ∧
    (∀ code ce : Int, s.ctl.pendingExc ≠ none ∨ code < 0 ∨ 31 < code ∨ ce < 0 ∨ 3 < ce →
      hostOp (.raiseException code ce) s = .ok (.flag false) s) ∧
    (∀ p, s.ctl.pendingExc = some p →
      ∃ t, hostOp .handleException s = .ok (.flag true) t ∧ TrapTaken p.code p.ce s t ∧
        t.ctl = { s.ctl with pendingExc := none } ∧
        OnlyChanges trapParts { s with ctl := { s.ctl with pendingExc := none } } t) ∧
    (s.ctl.pendingExc = none → hostOp .handleException s = .ok (.flag false) s)

/-- Initialisation resets the controller and the Processor State and no memory; shutdown stops (R440, R442). -/
def Obligations.Lifecycle : Prop :=
  ∀ s : State,
    (s.mem.memReady = true → ∃ t, hostOp .init s = .ok .done t ∧ t.mem = s.mem ∧
      (∀ r : Reg, t.x r = 0#32 ∧ t.cp0 r = 0#32 ∧ t.fpr r = 0#64 ∧ t.fcr r = 0#32) ∧
      t.cpu.hi = 0#32 ∧ t.cpu.lo = 0#32 ∧ t.cpu.pc = 0#32 ∧ t.cpu.delay = .none ∧ t.cpu.llbit = false ∧
      t.ctl.cycles = 0#64 ∧ t.ctl.instructions = 0#64 ∧ t.ctl.execMode = .interpreter ∧
      t.ctl.runState = .stopped ∧ t.ctl.pendingExc = none ∧ t.ctl.runCount = 0 ∧ t.ctl.initialized = true ∧
      ∀ a, t.hasBreakpoint a = false) ∧
    (s.mem.memReady = false → hostOp .init s = .fatal) ∧
    (∃ t, hostOp .shutdown s = .ok .done t ∧ t.ctl.runState = .stopped ∧ t.ctl.initialized = false ∧
      t = { s with ctl := { s.ctl with runState := .stopped, initialized := false } } ∧
      hostOp .run t = .fatal ∧ hostOp .step t = .fatal)

/-- The state after reset (10_state.md R41, 10_state.md R43, 20_memory.md R64). -/
def Obligations.ResetValues : Prop :=
  (∀ r : Reg, State.reset.x r = 0#32 ∧ State.reset.cp0 r = 0#32 ∧ State.reset.fpr r = 0#64 ∧ State.reset.fcr r = 0#32) ∧
  State.reset.cpu.hi = 0#32 ∧ State.reset.cpu.lo = 0#32 ∧ State.reset.cpu.pc = 0#32 ∧
  State.reset.cpu.delay = .none ∧ State.reset.cpu.llbit = false ∧ State.reset.ctl.runState = .stopped ∧
  State.reset.ctl.execMode = .interpreter ∧ State.reset.ctl.cycles = 0#64 ∧
  State.reset.ctl.instructions = 0#64 ∧ State.reset.ctl.runCount = 0 ∧
  State.reset.mem.memReads = 0#64 ∧ State.reset.mem.memWrites = 0#64 ∧ State.reset.ctl.pendingExc = none ∧
  State.reset.ctl.initialized = true ∧ (∀ a, State.reset.hasBreakpoint a = false) ∧
  (∀ k, State.reset.mem.dram.read k = 0#8 ∧ State.reset.mem.sram.read k = 0#8) ∧
  State.reset.mem.rom = [] ∧ State.reset.mem.romLoaded = false ∧ State.reset.mem.memReady = true ∧
  (∀ i : Fin 8, State.reset.mem.mmio[i.val] = Config.mmioInit i) ∧
  State.reset.mem.maps = [⟨0x00000000#32, 0x00000000#32, 0x00400000#32⟩, ⟨0x80000000#32, 0x00000000#32, 0x00400000#32⟩,
    ⟨0xA0000000#32, 0x00000000#32, 0x00400000#32⟩, ⟨0x04000000#32, 0x04000000#32, 0x00008000#32⟩]

/-- A host call is a step of its own, never inside a cycle (40_controller.md R177, 40_controller.md R157, 20_memory.md
R98, notes/assumptions/2.md, notes/assumptions/5.md, 40_controller.md R176, 40_controller.md R178). The queue of moves
and the record of what is returned are the model's choices (log entries 2 and 5). -/
def Obligations.HostMovesBetweenCycles : Prop :=
  ∀ (s : State) (op : HostOp) (rest : List HostMove), s.ctl.runState ≠ .stepping → s.agenda = .call op :: rest →
    (∀ r t, hostOp op { s with agenda := rest } = .ok r t →
      (t.ctl.runState = .running ∨ t.runCall = none → step s = .next { t with replies := [r] }) ∧
      (∀ q, t.ctl.runState ≠ .running → t.runCall = some q →
        step s = .next { t with runCall := none, replies := [r, q] })) ∧
    (∀ t, hostOp op { s with agenda := rest } = .entered t → step s = .next t) ∧
    (hostOp op { s with agenda := rest } = .fatal → step s = .fault .fatal)

/-- Every instruction completes, transfers control, or traps with no effect but the registers of its trap
(40_controller.md R151, 60_exceptions.md R403). -/
def Obligations.PreciseExceptions : Prop :=
  ∀ (i : Instr) (s t : State), exec i s = .next t →
    (statusEXL s.status = false → statusEXL t.status = true → (∀ rt rd, i ≠ .mtc0 rt rd) → TrapsPrecisely s t) ∧
    ((¬ ControlTransfer i ∧ Advances s t) ∨
      (ControlTransfer i ∧ (t.cpu.delay ≠ .none ∨ t.cpu.pc = s.cpu.pc + 8#32 ∨ i = .eret)) ∨
      TrapsPrecisely s t)
end

