-- ==== Sys2Proof/Laws/Encoding.lean ====
section
/-! SUPPORT. The fields of an encoded word, the fields a mask fixes, and the fields of a masked word. -/

namespace Sys2Proof

/-! ### The fields of an encoded word -/

theorem opcodeOf_encodeR (o : BitVec 6) (a b c d : BitVec 5) (f : BitVec 6) : opcodeOf (encodeR o a b c d f) = o := by
  apply BitVec.eq_of_getLsbD_eq; intro i hi
  simp only [opcodeOf, encodeR, BitVec.getLsbD_extractLsb', BitVec.getLsbD_append]
  rw [decide_eq_true hi, Bool.true_and]
  repeat' split
  all_goals first | omega | (congr 1; omega)

theorem rsBits_encodeR (o : BitVec 6) (a b c d : BitVec 5) (f : BitVec 6) : rsBits (encodeR o a b c d f) = a := by
  apply BitVec.eq_of_getLsbD_eq; intro i hi
  simp only [rsBits, encodeR, BitVec.getLsbD_extractLsb', BitVec.getLsbD_append]
  rw [decide_eq_true hi, Bool.true_and]
  repeat' split
  all_goals first | omega | (congr 1; omega)

theorem rtBits_encodeR (o : BitVec 6) (a b c d : BitVec 5) (f : BitVec 6) : rtBits (encodeR o a b c d f) = b := by
  apply BitVec.eq_of_getLsbD_eq; intro i hi
  simp only [rtBits, encodeR, BitVec.getLsbD_extractLsb', BitVec.getLsbD_append]
  rw [decide_eq_true hi, Bool.true_and]
  repeat' split
  all_goals first | omega | (congr 1; omega)

theorem rdBits_encodeR (o : BitVec 6) (a b c d : BitVec 5) (f : BitVec 6) : rdBits (encodeR o a b c d f) = c := by
  apply BitVec.eq_of_getLsbD_eq; intro i hi
  simp only [rdBits, encodeR, BitVec.getLsbD_extractLsb', BitVec.getLsbD_append]
  rw [decide_eq_true hi, Bool.true_and]
  repeat' split
  all_goals first | omega | (congr 1; omega)

theorem saBits_encodeR (o : BitVec 6) (a b c d : BitVec 5) (f : BitVec 6) : saBits (encodeR o a b c d f) = d := by
  apply BitVec.eq_of_getLsbD_eq; intro i hi
  simp only [saBits, encodeR, BitVec.getLsbD_extractLsb', BitVec.getLsbD_append]
  rw [decide_eq_true hi, Bool.true_and]
  repeat' split
  all_goals first | omega | (congr 1; omega)

theorem functOf_encodeR (o : BitVec 6) (a b c d : BitVec 5) (f : BitVec 6) : functOf (encodeR o a b c d f) = f := by
  apply BitVec.eq_of_getLsbD_eq; intro i hi
  simp only [functOf, encodeR, BitVec.getLsbD_extractLsb', BitVec.getLsbD_append]
  rw [decide_eq_true hi, Bool.true_and]
  repeat' split
  all_goals first | omega | (congr 1; omega)

theorem opcodeOf_encodeI (o : BitVec 6) (a b : BitVec 5) (i : BitVec 16) : opcodeOf (encodeI o a b i) = o := by
  apply BitVec.eq_of_getLsbD_eq; intro i hi
  simp only [opcodeOf, encodeI, BitVec.getLsbD_extractLsb', BitVec.getLsbD_append]
  rw [decide_eq_true hi, Bool.true_and]
  repeat' split
  all_goals first | omega | (congr 1; omega)

theorem rsBits_encodeI (o : BitVec 6) (a b : BitVec 5) (i : BitVec 16) : rsBits (encodeI o a b i) = a := by
  apply BitVec.eq_of_getLsbD_eq; intro i hi
  simp only [rsBits, encodeI, BitVec.getLsbD_extractLsb', BitVec.getLsbD_append]
  rw [decide_eq_true hi, Bool.true_and]
  repeat' split
  all_goals first | omega | (congr 1; omega)

theorem rtBits_encodeI (o : BitVec 6) (a b : BitVec 5) (i : BitVec 16) : rtBits (encodeI o a b i) = b := by
  apply BitVec.eq_of_getLsbD_eq; intro i hi
  simp only [rtBits, encodeI, BitVec.getLsbD_extractLsb', BitVec.getLsbD_append]
  rw [decide_eq_true hi, Bool.true_and]
  repeat' split
  all_goals first | omega | (congr 1; omega)

theorem immOf_encodeI (o : BitVec 6) (a b : BitVec 5) (i : BitVec 16) : immOf (encodeI o a b i) = i := by
  apply BitVec.eq_of_getLsbD_eq; intro i hi
  simp only [immOf, encodeI, BitVec.getLsbD_extractLsb', BitVec.getLsbD_append]
  rw [decide_eq_true hi, Bool.true_and]
  repeat' split
  all_goals first | omega | (congr 1; omega)

theorem opcodeOf_encodeJ (o : BitVec 6) (t : BitVec 26) : opcodeOf (encodeJ o t) = o := by
  apply BitVec.eq_of_getLsbD_eq; intro i hi
  simp only [opcodeOf, encodeJ, BitVec.getLsbD_extractLsb', BitVec.getLsbD_append]
  rw [decide_eq_true hi, Bool.true_and]
  repeat' split
  all_goals first | omega | (congr 1; omega)

theorem targetOf_encodeJ (o : BitVec 6) (t : BitVec 26) : targetOf (encodeJ o t) = t := by
  apply BitVec.eq_of_getLsbD_eq; intro i hi
  simp only [targetOf, encodeJ, BitVec.getLsbD_extractLsb', BitVec.getLsbD_append]
  rw [decide_eq_true hi, Bool.true_and]
  repeat' split
  all_goals first | omega | (congr 1; omega)

theorem opcodeOf_encodeCode (c : BitVec 20) (f : BitVec 6) : opcodeOf (encodeCode c f) = 0#6 := by
  apply BitVec.eq_of_getLsbD_eq; intro i hi
  simp only [opcodeOf, encodeCode, BitVec.getLsbD_extractLsb', BitVec.getLsbD_append]
  rw [decide_eq_true hi, Bool.true_and]
  repeat' split
  all_goals first | omega | (congr 1; omega)

theorem functOf_encodeCode (c : BitVec 20) (f : BitVec 6) : functOf (encodeCode c f) = f := by
  apply BitVec.eq_of_getLsbD_eq; intro i hi
  simp only [functOf, encodeCode, BitVec.getLsbD_extractLsb', BitVec.getLsbD_append]
  rw [decide_eq_true hi, Bool.true_and]
  repeat' split
  all_goals first | omega | (congr 1; omega)

theorem opcodeOf_encodeTrap (a b : BitVec 5) (c : BitVec 10) (f : BitVec 6) : opcodeOf (encodeTrap a b c f) = 0#6 := by
  apply BitVec.eq_of_getLsbD_eq; intro i hi
  simp only [opcodeOf, encodeTrap, BitVec.getLsbD_extractLsb', BitVec.getLsbD_append]
  rw [decide_eq_true hi, Bool.true_and]
  repeat' split
  all_goals first | omega | (congr 1; omega)

theorem rsBits_encodeTrap (a b : BitVec 5) (c : BitVec 10) (f : BitVec 6) : rsBits (encodeTrap a b c f) = a := by
  apply BitVec.eq_of_getLsbD_eq; intro i hi
  simp only [rsBits, encodeTrap, BitVec.getLsbD_extractLsb', BitVec.getLsbD_append]
  rw [decide_eq_true hi, Bool.true_and]
  repeat' split
  all_goals first | omega | (congr 1; omega)

theorem rtBits_encodeTrap (a b : BitVec 5) (c : BitVec 10) (f : BitVec 6) : rtBits (encodeTrap a b c f) = b := by
  apply BitVec.eq_of_getLsbD_eq; intro i hi
  simp only [rtBits, encodeTrap, BitVec.getLsbD_extractLsb', BitVec.getLsbD_append]
  rw [decide_eq_true hi, Bool.true_and]
  repeat' split
  all_goals first | omega | (congr 1; omega)

theorem functOf_encodeTrap (a b : BitVec 5) (c : BitVec 10) (f : BitVec 6) : functOf (encodeTrap a b c f) = f := by
  apply BitVec.eq_of_getLsbD_eq; intro i hi
  simp only [functOf, encodeTrap, BitVec.getLsbD_extractLsb', BitVec.getLsbD_append]
  rw [decide_eq_true hi, Bool.true_and]
  repeat' split
  all_goals first | omega | (congr 1; omega)

theorem opcodeOf_encodeCo (f : BitVec 6) : opcodeOf (encodeCo f) = 0x10#6 := by
  apply BitVec.eq_of_getLsbD_eq; intro i hi
  simp only [opcodeOf, encodeCo, BitVec.getLsbD_extractLsb', BitVec.getLsbD_append]
  rw [decide_eq_true hi, Bool.true_and]
  repeat' split
  all_goals first | omega | (congr 1; omega)

theorem functOf_encodeCo (f : BitVec 6) : functOf (encodeCo f) = f := by
  apply BitVec.eq_of_getLsbD_eq; intro i hi
  simp only [functOf, encodeCo, BitVec.getLsbD_extractLsb', BitVec.getLsbD_append]
  rw [decide_eq_true hi, Bool.true_and]
  repeat' split
  all_goals first | omega | (congr 1; omega)

theorem coBit_encodeR (o : BitVec 6) (a b c d : BitVec 5) (f : BitVec 6) :
    coBit (encodeR o a b c d f) = a.getLsbD 4 := by
  simp only [coBit, encodeR, BitVec.getLsbD_append]
  simp

theorem coBit_encodeCo (f : BitVec 6) : coBit (encodeCo f) = true := by
  simp only [coBit, encodeCo, BitVec.getLsbD_append]
  simp

theorem bcBits_encodeI (o : BitVec 6) (a b : BitVec 5) (i : BitVec 16) :
    bcBits (encodeI o a b i) = b.extractLsb' 0 2 := by
  apply BitVec.eq_of_getLsbD_eq; intro j hj
  simp only [bcBits, encodeI, BitVec.getLsbD_extractLsb', BitVec.getLsbD_append]
  rw [decide_eq_true hj, Bool.true_and, Bool.true_and, if_neg (by omega), if_pos (by omega)]
  congr 1; omega

theorem codeField_encodeTrap (a b : BitVec 5) (c : BitVec 10) (f : BitVec 6) :
    (encodeTrap a b c f).extractLsb' 6 10 = c := by
  apply BitVec.eq_of_getLsbD_eq; intro i hi
  simp only [encodeTrap, BitVec.getLsbD_extractLsb', BitVec.getLsbD_append]
  rw [decide_eq_true hi, Bool.true_and, if_neg (by omega), if_pos (by omega)]
  congr 1; omega

theorem codeField_encodeCode (c : BitVec 20) (f : BitVec 6) : (encodeCode c f).extractLsb' 6 20 = c := by
  apply BitVec.eq_of_getLsbD_eq; intro i hi
  simp only [encodeCode, BitVec.getLsbD_extractLsb', BitVec.getLsbD_append]
  rw [decide_eq_true hi, Bool.true_and, if_neg (by omega), if_pos (by omega)]
  congr 1; omega

theorem code10_encodeTrap (a b : BitVec 5) (c : BitVec 10) (f : BitVec 6) : code10 (encodeTrap a b c f) = c.toNat :=
  congrArg BitVec.toNat (codeField_encodeTrap ..)

theorem code20_encodeCode (c : BitVec 20) (f : BitVec 6) : code20 (encodeCode c f) = c.toNat :=
  congrArg BitVec.toNat (codeField_encodeCode ..)

theorem cofunOf_encodeJ (o : BitVec 6) (t : BitVec 26) : cofunOf (encodeJ o t) = t.toNat := by
  unfold cofunOf
  exact congrArg BitVec.toNat (targetOf_encodeJ o t)

theorem regField_toFin (r : Reg) : (regField r).toFin = r := rfl

/-! ### A word is its fields -/

/-- The bits of a field of a masked word. -/
theorem extract_and (v w : Word) (lo n : Nat) :
    (v &&& w).extractLsb' lo n = v.extractLsb' lo n &&& w.extractLsb' lo n := by
  apply BitVec.eq_of_getLsbD_eq; intro i hi
  simp [hi]

/-- A field whose bits a mask fixes holds the pattern's value. -/
theorem extract_of_mask {w mask pattern : Word} (h : w &&& mask = pattern) (lo n : Nat)
    (hm : mask.extractLsb' lo n = BitVec.allOnes n) : w.extractLsb' lo n = pattern.extractLsb' lo n := by
  rw [← h, extract_and, hm, BitVec.and_allOnes]

/-- The immediate field of an R-type word. -/
theorem immOf_encodeR (o : BitVec 6) (a b c d : BitVec 5) (f : BitVec 6) : immOf (encodeR o a b c d f) = c ++ d ++ f := by
  apply BitVec.eq_of_getLsbD_eq; intro i hi
  simp only [immOf, encodeR, BitVec.getLsbD_extractLsb', BitVec.getLsbD_append]
  rw [decide_eq_true hi, Bool.true_and, show 0 + i = i by omega]
  repeat' split
  all_goals first | rfl | omega

/-! ### Which encodings fit a row -/

/-- Words whose fields agree, the fields covering the word, are equal. -/
theorem word_of_fields {v w : Word} (fields : List (Nat × Nat))
    (hc : ∀ i : Fin 32, ∃ f ∈ fields, f.1 ≤ i.val ∧ i.val < f.1 + f.2)
    (h : ∀ f ∈ fields, v.extractLsb' f.1 f.2 = w.extractLsb' f.1 f.2) : v = w := by
  apply BitVec.eq_of_getLsbD_eq; intro i hi
  obtain ⟨f, hf, h1, h2⟩ := hc ⟨i, hi⟩
  have := congrArg (fun v => v.getLsbD (i - f.1)) (h f hf)
  simp only [BitVec.getLsbD_extractLsb'] at this
  simp only at h1 h2
  rwa [decide_eq_true (by omega), Bool.true_and, Bool.true_and, show f.1 + (i - f.1) = i by omega] at this

/-- A field that a row leaves free. -/
theorem free {n : Nat} (x : BitVec n) : x &&& 0#n = 0#n := BitVec.and_zero

theorem encodeR_fits {o f : BitVec 6} {a b c d : BitVec 5} {mask pattern : Word}
    (h0 : o &&& mask.extractLsb' 26 6 = pattern.extractLsb' 26 6)
    (h1 : a &&& mask.extractLsb' 21 5 = pattern.extractLsb' 21 5)
    (h2 : b &&& mask.extractLsb' 16 5 = pattern.extractLsb' 16 5)
    (h3 : c &&& mask.extractLsb' 11 5 = pattern.extractLsb' 11 5)
    (h4 : d &&& mask.extractLsb' 6 5 = pattern.extractLsb' 6 5)
    (h5 : f &&& mask.extractLsb' 0 6 = pattern.extractLsb' 0 6) :
    encodeR o a b c d f &&& mask = pattern := by
  refine word_of_fields [(26, 6), (21, 5), (16, 5), (11, 5), (6, 5), (0, 6)] (by decide) ?_
  simp only [List.forall_mem_cons, List.not_mem_nil, false_implies, implies_true, and_true, extract_and]
  exact ⟨by rw [← h0]; exact congrArg (· &&& _) (opcodeOf_encodeR ..), by rw [← h1]; exact congrArg (· &&& _) (rsBits_encodeR ..), by rw [← h2]; exact congrArg (· &&& _) (rtBits_encodeR ..), by rw [← h3]; exact congrArg (· &&& _) (rdBits_encodeR ..), by rw [← h4]; exact congrArg (· &&& _) (saBits_encodeR ..), by rw [← h5]; exact congrArg (· &&& _) (functOf_encodeR ..)⟩

theorem encodeI_fits {o : BitVec 6} {a b : BitVec 5} {i : BitVec 16} {mask pattern : Word}
    (h0 : o &&& mask.extractLsb' 26 6 = pattern.extractLsb' 26 6)
    (h1 : a &&& mask.extractLsb' 21 5 = pattern.extractLsb' 21 5)
    (h2 : b &&& mask.extractLsb' 16 5 = pattern.extractLsb' 16 5)
    (h3 : i &&& mask.extractLsb' 0 16 = pattern.extractLsb' 0 16) :
    encodeI o a b i &&& mask = pattern := by
  refine word_of_fields [(26, 6), (21, 5), (16, 5), (0, 16)] (by decide) ?_
  simp only [List.forall_mem_cons, List.not_mem_nil, false_implies, implies_true, and_true, extract_and]
  exact ⟨by rw [← h0]; exact congrArg (· &&& _) (opcodeOf_encodeI ..), by rw [← h1]; exact congrArg (· &&& _) (rsBits_encodeI ..), by rw [← h2]; exact congrArg (· &&& _) (rtBits_encodeI ..), by rw [← h3]; exact congrArg (· &&& _) (immOf_encodeI ..)⟩

theorem encodeJ_fits {o : BitVec 6} {t : BitVec 26} {mask pattern : Word}
    (h0 : o &&& mask.extractLsb' 26 6 = pattern.extractLsb' 26 6)
    (h1 : t &&& mask.extractLsb' 0 26 = pattern.extractLsb' 0 26) :
    encodeJ o t &&& mask = pattern := by
  refine word_of_fields [(26, 6), (0, 26)] (by decide) ?_
  simp only [List.forall_mem_cons, List.not_mem_nil, false_implies, implies_true, and_true, extract_and]
  exact ⟨by rw [← h0]; exact congrArg (· &&& _) (opcodeOf_encodeJ ..), by rw [← h1]; exact congrArg (· &&& _) (targetOf_encodeJ ..)⟩

theorem encodeCode_fits {c : BitVec 20} {f : BitVec 6} {mask pattern : Word}
    (h0 : 0#6 &&& mask.extractLsb' 26 6 = pattern.extractLsb' 26 6)
    (h1 : c &&& mask.extractLsb' 6 20 = pattern.extractLsb' 6 20)
    (h2 : f &&& mask.extractLsb' 0 6 = pattern.extractLsb' 0 6) :
    encodeCode c f &&& mask = pattern := by
  refine word_of_fields [(26, 6), (6, 20), (0, 6)] (by decide) ?_
  simp only [List.forall_mem_cons, List.not_mem_nil, false_implies, implies_true, and_true, extract_and]
  exact ⟨by rw [← h0]; exact congrArg (· &&& _) (opcodeOf_encodeCode ..), by rw [← h1]; exact congrArg (· &&& _) (codeField_encodeCode ..), by rw [← h2]; exact congrArg (· &&& _) (functOf_encodeCode ..)⟩

theorem encodeTrap_fits {a b : BitVec 5} {c : BitVec 10} {f : BitVec 6} {mask pattern : Word}
    (h0 : 0#6 &&& mask.extractLsb' 26 6 = pattern.extractLsb' 26 6)
    (h1 : a &&& mask.extractLsb' 21 5 = pattern.extractLsb' 21 5)
    (h2 : b &&& mask.extractLsb' 16 5 = pattern.extractLsb' 16 5)
    (h3 : c &&& mask.extractLsb' 6 10 = pattern.extractLsb' 6 10)
    (h4 : f &&& mask.extractLsb' 0 6 = pattern.extractLsb' 0 6) :
    encodeTrap a b c f &&& mask = pattern := by
  refine word_of_fields [(26, 6), (21, 5), (16, 5), (6, 10), (0, 6)] (by decide) ?_
  simp only [List.forall_mem_cons, List.not_mem_nil, false_implies, implies_true, and_true, extract_and]
  exact ⟨by rw [← h0]; exact congrArg (· &&& _) (opcodeOf_encodeTrap ..), by rw [← h1]; exact congrArg (· &&& _) (rsBits_encodeTrap ..), by rw [← h2]; exact congrArg (· &&& _) (rtBits_encodeTrap ..), by rw [← h3]; exact congrArg (· &&& _) (codeField_encodeTrap ..), by rw [← h4]; exact congrArg (· &&& _) (functOf_encodeTrap ..)⟩

end Sys2Proof
end

