-- ==== Sys2Proof/Laws/Fields.lean ====
section
/-! SUPPORT. Writing a field of a register changes that field and no other bit. -/

namespace Sys2Proof.Machine

theorem bitAt_putBit (v : Word) (i : Nat) (b : Bool) (n : Nat) (hi : i < 32) :
    bitAt (putBit v i b) n = if n = i then b else bitAt v n := by
  unfold bitAt putBit
  cases b
  · simp only [Bool.false_eq_true, if_false, BitVec.getLsbD_and, BitVec.getLsbD_not, BitVec.getLsbD_shiftLeft,
      BitVec.getLsbD_one]
    by_cases h : n = i
    · simp [h, hi]
    · by_cases hn : n < 32
      · simp [h, hn]; omega
      · simp [h, hn, BitVec.getLsbD_of_ge v n (by omega)]
  · simp only [if_true, BitVec.getLsbD_or, BitVec.getLsbD_shiftLeft, BitVec.getLsbD_one]
    by_cases h : n = i
    · simp [h, hi]
    · simp [h]; omega

theorem bitAt_putField {k : Nat} (v : Word) (lo : Nat) (f : BitVec k) (n : Nat) (h : lo + k ≤ 32) :
    bitAt (putField v lo f) n = if lo ≤ n ∧ n < lo + k then f.getLsbD (n - lo) else bitAt v n := by
  unfold bitAt putField
  simp only [BitVec.getLsbD_or, BitVec.getLsbD_and, BitVec.getLsbD_not, BitVec.getLsbD_shiftLeft,
    BitVec.getLsbD_setWidth, BitVec.getLsbD_allOnes]
  by_cases hn : n < 32
  · by_cases h1 : n < lo
    · simp [hn, h1, show ¬ lo ≤ n by omega]
    · by_cases h2 : n - lo < k
      · simp [hn, h1, h2, show lo ≤ n by omega, show n < lo + k by omega, show n - lo < 32 by omega]
      · simp [hn, h1, h2, show ¬ n < lo + k by omega, BitVec.getLsbD_of_ge f (n - lo) (by omega)]
  · simp [hn, BitVec.getLsbD_of_ge v n (by omega), show ¬ n < lo + k by omega]

theorem fieldAt_ext {k : Nat} (v : Word) (lo : Nat) (f : BitVec k)
    (h : ∀ n, n < k → bitAt v (lo + n) = f.getLsbD n) : fieldAt v lo k = f := by
  apply BitVec.eq_of_getLsbD_eq
  intro n hn
  simpa [fieldAt, hn, bitAt] using h n hn

theorem getLsbD_fieldAt (v : Word) (lo k n : Nat) :
    (fieldAt v lo k).getLsbD n = (decide (n < k) && bitAt v (lo + n)) := by
  simp [fieldAt, bitAt]

/-- A field written is the field read. -/
theorem fieldAt_putField {k : Nat} (v : Word) (lo : Nat) (f : BitVec k) (h : lo + k ≤ 32) :
    fieldAt (putField v lo f) lo k = f :=
  fieldAt_ext _ _ _ fun n hn => by
    rw [bitAt_putField _ _ _ _ h, if_pos ⟨by omega, by omega⟩]; congr 1; omega

/-- A field that does not meet the one written is kept. -/
theorem fieldAt_putField_of_disjoint {k : Nat} (v : Word) (lo : Nat) (f : BitVec k) (lo' k' : Nat)
    (h : lo + k ≤ 32) (hd : lo' + k' ≤ lo ∨ lo + k ≤ lo') :
    fieldAt (putField v lo f) lo' k' = fieldAt v lo' k' :=
  fieldAt_ext _ _ _ fun n hn => by
    rw [bitAt_putField _ _ _ _ h, if_neg (by omega), getLsbD_fieldAt]; simp [hn]

/-- A field that does not hold the bit written is kept. -/
theorem fieldAt_putBit_of_disjoint (v : Word) (i : Nat) (b : Bool) (lo k : Nat) (hi : i < 32)
    (hd : i < lo ∨ lo + k ≤ i) : fieldAt (putBit v i b) lo k = fieldAt v lo k :=
  fieldAt_ext _ _ _ fun n hn => by
    rw [bitAt_putBit _ _ _ _ hi, if_neg (by omega), getLsbD_fieldAt]; simp [hn]

/-! ### Status, Cause and FCSR -/

@[simp] theorem statusEXL_putEXL (v : Word) (b : Bool) : statusEXL (putEXL v b) = b := by
  simp [statusEXL, putEXL, bitAt_putBit]
@[simp] theorem statusERL_putEXL (v : Word) (b : Bool) : statusERL (putEXL v b) = statusERL v := by
  simp [statusERL, putEXL, bitAt_putBit]
@[simp] theorem statusERL_putERL (v : Word) (b : Bool) : statusERL (putERL v b) = b := by
  simp [statusERL, putERL, bitAt_putBit]
@[simp] theorem statusCU1_putEXL (v : Word) (b : Bool) : statusCU1 (putEXL v b) = statusCU1 v := by
  simp [statusCU1, putEXL, bitAt_putBit]

@[simp] theorem causeExcCode_putExcCode (v : Word) (c : BitVec 5) : causeExcCode (putExcCode v c) = c :=
  fieldAt_putField v 2 c (by decide)
@[simp] theorem causeExcCode_putCE (v : Word) (c : BitVec 2) : causeExcCode (putCE v c) = causeExcCode v :=
  fieldAt_putField_of_disjoint v 28 c 2 5 (by decide) (by decide)
@[simp] theorem causeCE_putCE (v : Word) (c : BitVec 2) : causeCE (putCE v c) = c :=
  fieldAt_putField v 28 c (by decide)
@[simp] theorem causeBD_putCE (v : Word) (c : BitVec 2) : causeBD (putCE v c) = causeBD v := by
  simp [causeBD, putCE, bitAt_putField]
@[simp] theorem causeBD_putExcCode (v : Word) (c : BitVec 5) : causeBD (putExcCode v c) = causeBD v := by
  simp [causeBD, putExcCode, bitAt_putField]
@[simp] theorem causeBD_putBD (v : Word) (b : Bool) : causeBD (putBD v b) = b := by
  simp [causeBD, putBD, bitAt_putBit]

/-- Bit `n` of FCSR after `FCSR.Cause <- c`. -/
theorem bitAt_putFcsrCause (v : Word) (c : BitVec 6) (n : Nat) :
    bitAt (putFcsrCause v c) n = if 12 ≤ n ∧ n ≤ 17 then c.getLsbD (n - 12) else bitAt v n := by
  rw [putFcsrCause, bitAt_putField _ _ _ _ (by decide)]
  simp only [show (n < 12 + 6) = (n ≤ 17) by rw [eq_iff_iff]; omega]

/-- Bit `n` of FCSR after `FCSR.Flags <- f`. -/
theorem bitAt_putFcsrFlags (v : Word) (f : BitVec 5) (n : Nat) :
    bitAt (putFcsrFlags v f) n = if 2 ≤ n ∧ n ≤ 6 then f.getLsbD (n - 2) else bitAt v n := by
  rw [putFcsrFlags, bitAt_putField _ _ _ _ (by decide)]
  simp only [show (n < 2 + 5) = (n ≤ 6) by rw [eq_iff_iff]; omega]

/-- Bit `n` of FCSR after `FCSR.C <- b`. -/
theorem bitAt_putFcsrC (v : Word) (b : Bool) (n : Nat) :
    bitAt (putFcsrC v b) n = if n = 23 then b else bitAt v n :=
  bitAt_putBit v 23 b n (by decide)

@[simp] theorem fcsrEnables_putFcsrCause (v : Word) (c : BitVec 6) : fcsrEnables (putFcsrCause v c) = fcsrEnables v :=
  fieldAt_putField_of_disjoint v 12 c 7 5 (by decide) (by decide)
@[simp] theorem fcsrFlags_putFcsrCause (v : Word) (c : BitVec 6) : fcsrFlags (putFcsrCause v c) = fcsrFlags v :=
  fieldAt_putField_of_disjoint v 12 c 2 5 (by decide) (by decide)
@[simp] theorem fcsrCause_putFcsrCause (v : Word) (c : BitVec 6) : fcsrCause (putFcsrCause v c) = c :=
  fieldAt_putField v 12 c (by decide)

end Sys2Proof.Machine
end

