-- ==== Sys2Proof/Laws/Memory.lean ====
section
/-! SUPPORT. The laws of memory: a write is read back at its place and nowhere else, and every operation keeps the
canonical form. -/

namespace Sys2Proof.Machine

/-! ### Byte arrays -/

theorem Memory.read_of_lt (m : Memory) (a : Nat) (h : ∀ c ∈ m, a < c.1) : m.read a = unlistedByte := by
  induction m with
  | nil => rfl
  | cons c m ih =>
    obtain ⟨k, b⟩ := c
    have hk : a < k := h _ (List.mem_cons_self ..)
    simp only [Memory.read, if_neg (show k ≠ a by omega)]
    exact ih fun c hc => h c (List.mem_cons_of_mem _ hc)

theorem Memory.wf_cons {k : Nat} {b : Byte} {m : Memory} :
    Memory.wf ((k, b) :: m) ↔ (∀ c ∈ m, k < c.1) ∧ b ≠ unlistedByte ∧ Memory.wf m := by
  unfold Memory.wf
  simp only [List.pairwise_cons, List.mem_cons, forall_eq_or_imp]
  tauto

theorem Memory.lt_of_mem_write {m : Memory} {a l : Nat} {b : Byte} (hm : ∀ c ∈ m, l < c.1) (ha : l < a) :
    ∀ c ∈ m.write a b, l < c.1 := by
  induction m with
  | nil =>
    simp only [Memory.write]
    split
    · exact hm
    · simpa using ha
  | cons c m ih =>
    obtain ⟨k, e⟩ := c
    have hk := hm _ (List.mem_cons_self ..)
    have hr : ∀ c ∈ m, l < c.1 := fun c hc => hm c (List.mem_cons_of_mem _ hc)
    simp only [Memory.write]
    repeat' split
    · exact hm
    · simp only [List.mem_cons, forall_eq_or_imp]; exact ⟨ha, hk, hr⟩
    · exact hr
    · simp only [List.mem_cons, forall_eq_or_imp]; exact ⟨ha, hr⟩
    · simp only [List.mem_cons, forall_eq_or_imp]; exact ⟨hk, ih hr⟩

/-- A write keeps the canonical form. -/
theorem Memory.write_wf {m : Memory} (a : Nat) (b : Byte) (h : m.wf) : (m.write a b).wf := by
  induction m with
  | nil =>
    simp only [Memory.write]
    split
    · exact h
    · exact Memory.wf_cons.2 ⟨by simp, by assumption, h⟩
  | cons c m ih =>
    obtain ⟨k, e⟩ := c
    obtain ⟨h1, h2, h3⟩ := Memory.wf_cons.1 h
    simp only [Memory.write]
    by_cases hak : a < k
    · simp only [if_pos hak]
      split
      · exact h
      · refine Memory.wf_cons.2 ⟨?_, by assumption, h⟩
        simp only [List.mem_cons, forall_eq_or_imp]
        exact ⟨hak, fun c hc => lt_trans hak (h1 c hc)⟩
    · by_cases hek : a = k
      · subst hek
        simp only [if_neg hak, if_true]
        split
        · exact h3
        · exact Memory.wf_cons.2 ⟨h1, by assumption, h3⟩
      · simp only [if_neg hak, if_neg hek]
        exact Memory.wf_cons.2 ⟨Memory.lt_of_mem_write h1 (by omega), h2, ih h3⟩

/-- Read after write, for every index. -/
theorem Memory.read_write {m : Memory} (a : Nat) (b : Byte) (h : m.wf) (c : Nat) :
    (m.write a b).read c = if c = a then b else m.read c := by
  induction m with
  | nil =>
    simp only [Memory.write]
    by_cases hb : b = unlistedByte
    · simp [hb, Memory.read]
    · simp only [if_neg hb, Memory.read, eq_comm]
  | cons d m ih =>
    obtain ⟨k, e⟩ := d
    obtain ⟨h1, h2, h3⟩ := Memory.wf_cons.1 h
    have low : ∀ n, n < k → Memory.read ((k, e) :: m) n = unlistedByte := fun n hn =>
      Memory.read_of_lt _ _ (by
        simp only [List.mem_cons, forall_eq_or_imp]; exact ⟨hn, fun c hc => lt_trans hn (h1 c hc)⟩)
    simp only [Memory.write]
    by_cases hak : a < k
    · simp only [if_pos hak]
      by_cases hb : b = unlistedByte
      · simp only [if_pos hb]
        by_cases hc : c = a
        · rw [if_pos hc, hc, hb, low a hak]
        · rw [if_neg hc]
      · simp only [if_neg hb]
        rw [Memory.read]
        by_cases hc : c = a
        · simp [hc]
        · simp [hc, Ne.symm hc]
    · by_cases hek : a = k
      · subst hek
        simp only [if_neg hak, if_true]
        by_cases hb : b = unlistedByte
        · simp only [if_pos hb]
          by_cases hc : c = a
          · rw [if_pos hc, hc, hb, Memory.read_of_lt m a h1]
          · simp [hc, Memory.read, Ne.symm hc]
        · simp only [if_neg hb, Memory.read]
          by_cases hc : c = a
          · simp [hc]
          · simp [hc, Ne.symm hc]
      · simp only [if_neg hak, if_neg hek, Memory.read]
        by_cases hkc : k = c
        · subst hkc; simp [Ne.symm hek]
        · simp only [if_neg hkc]; exact ih h3

/-- A write within the array keeps every listed cell within it. -/
theorem Memory.write_fits {m : Memory} {n : Nat} (a : Nat) (b : Byte) (h : m.fits n) (ha : a < n) :
    (m.write a b).fits n := by
  induction m with
  | nil =>
    simp only [Memory.write]
    split
    · exact h
    · simpa [Memory.fits] using ha
  | cons c m ih =>
    obtain ⟨k, e⟩ := c
    have hk : k < n := h _ (List.mem_cons_self ..)
    have hm : Memory.fits m n := fun c hc => h c (List.mem_cons_of_mem _ hc)
    have := ih hm
    simp only [Memory.write]
    repeat' split
    · exact h
    · exact List.forall_mem_cons.2 ⟨ha, h⟩
    · exact hm
    · exact List.forall_mem_cons.2 ⟨ha, hm⟩
    · exact List.forall_mem_cons.2 ⟨hk, this⟩

/-! ### The MMIO block -/

theorem byteLane_putByteLane (v : Word) (k j : Nat) (b : Byte) (hk : k < 4) (hj : j < 4) :
    byteLane (putByteLane v k b) j = if j = k then b else byteLane v j := by
  unfold putByteLane
  by_cases h : j = k
  · subst h; rw [if_pos rfl]; exact fieldAt_putField v _ b (by omega)
  · rw [if_neg h]; exact fieldAt_putField_of_disjoint v _ b _ _ (by omega) (by omega)

theorem mmioSlot_eq_some {va : Word} {i : Fin 8} (hm : isMmio va = true) :
    mmioSlot va = some i ↔ va.toNat - va.toNat % 4 = Config.mmioBase + 16 * i.val := by
  have hb : Config.mmioBase ≤ va.toNat := of_decide_eq_true hm
  have h4 : Config.mmioBase % 4 = 0 := by decide
  have h32 : Config.mmioBase + 128 < 2 ^ 32 := by decide
  have := i.isLt
  have e : ((va - BitVec.ofNat 32 (va.toNat % 4)) - BitVec.ofNat 32 Config.mmioBase).toNat =
      va.toNat - va.toNat % 4 - Config.mmioBase := by
    generalize Config.mmioBase = base at *
    simp only [BitVec.toNat_sub, BitVec.toNat_ofNat]
    omega
  unfold mmioSlot
  simp only [e, Config.mmioSlotStride]
  split
  · rename_i h
    simp only [Option.some.injEq, Fin.ext_iff]
    omega
  · rename_i h
    simp only [reduceCtorEq, false_iff]
    omega

/-- An MMIO byte written to a writable slot is read back; every other MMIO byte is kept. -/
theorem MemSys.mmioByteRead_mmioByteWrite (m : MemSys) (va a : Word) (b : Byte) (hv : isMmio va = true)
    (ha : isMmio a = true) :
    (m.mmioByteWrite va b).mmioByteRead a =
      if a = va ∧ (mmioSlot va).any mmioWritable then b else m.mmioByteRead a := by
  unfold MemSys.mmioByteWrite
  cases hs : mmioSlot va with
  | none => simp
  | some i =>
    by_cases hw : mmioWritable i = true
    · simp only [hw, if_true, Option.any_some, and_true]
      unfold MemSys.mmioByteRead MemSys.mmioWord
      cases hsa : mmioSlot a with
      | none =>
        have : a ≠ va := by rintro rfl; simp [hs] at hsa
        simp [this]
      | some j =>
        simp only
        by_cases hij : i = j
        · subst hij
          rw [Vector.getElem_set_self, byteLane_putByteLane _ _ _ _ (Nat.mod_lt _ (by omega))
            (Nat.mod_lt _ (by omega))]
          have h1 := (mmioSlot_eq_some hv).1 hs
          have h2 := (mmioSlot_eq_some ha).1 hsa
          have : (a.toNat % 4 = va.toNat % 4) ↔ a = va :=
            ⟨fun h => BitVec.eq_of_toNat_eq (by omega), fun h => by rw [h]⟩
          simp only [this]
        · have hne : a ≠ va := by
            rintro rfl; rw [hs] at hsa; exact hij (Option.some.inj hsa)
          have : i.val ≠ j.val := fun h => hij (Fin.ext h)
          rw [Vector.getElem_set_ne _ _ this]
          simp [hne]
    · simp [hw]

/-! ### Regions -/

theorem MemSys.physRegion_dram (m : MemSys) {pa : Word} (h : inDram pa = true) : m.physRegion pa = .dram := by
  simp only [MemSys.physRegion, h, if_true]

theorem MemSys.physRegion_sram (m : MemSys) {pa : Word} (hd : inDram pa = false) (h : inSram pa = true) :
    m.physRegion pa = .sram := by
  simp only [MemSys.physRegion, hd, h, Bool.false_eq_true, if_false, if_true]

theorem MemSys.physRegion_other (m : MemSys) {pa : Word} (hd : inDram pa = false) (hs : inSram pa = false) :
    m.physRegion pa = if m.inRom pa then .rom else .unmapped := by
  simp only [MemSys.physRegion, hd, hs, Bool.false_eq_true, if_false]

theorem MemSys.pByteRead_dram (m : MemSys) {pa : Word} (h : inDram pa = true) :
    m.pByteRead pa = m.dram.read (offsetFrom Config.dramPbase pa) := by
  simp only [MemSys.pByteRead, m.physRegion_dram h]

theorem MemSys.pByteRead_sram (m : MemSys) {pa : Word} (hd : inDram pa = false) (h : inSram pa = true) :
    m.pByteRead pa = m.sram.read (offsetFrom Config.sramPbase pa) := by
  simp only [MemSys.pByteRead, m.physRegion_sram hd h]

theorem MemSys.pByteRead_other (m : MemSys) {pa : Word} (hd : inDram pa = false) (hs : inSram pa = false) :
    m.pByteRead pa = if m.inRom pa then m.rom.getD (offsetFrom Config.romPbase pa) Config.unmappedByte
      else Config.unmappedByte := by
  simp only [MemSys.pByteRead, m.physRegion_other hd hs]
  cases m.inRom pa <;> rfl

theorem MemSys.pByteWrite_dram (m : MemSys) {pa : Word} (b : Byte) (h : inDram pa = true) :
    m.pByteWrite pa b = { m with dram := m.dram.write (offsetFrom Config.dramPbase pa) b } := by
  simp only [MemSys.pByteWrite, m.physRegion_dram h]

theorem MemSys.pByteWrite_sram (m : MemSys) {pa : Word} (b : Byte) (hd : inDram pa = false)
    (h : inSram pa = true) :
    m.pByteWrite pa b = { m with sram := m.sram.write (offsetFrom Config.sramPbase pa) b } := by
  simp only [MemSys.pByteWrite, m.physRegion_sram hd h]

/-- Writes to ROM and to unmapped addresses are discarded (20_memory.md R73, R74). -/
theorem MemSys.pByteWrite_other (m : MemSys) {pa : Word} (b : Byte) (hd : inDram pa = false)
    (hs : inSram pa = false) : m.pByteWrite pa b = m := by
  simp only [MemSys.pByteWrite, m.physRegion_other hd hs]
  cases m.inRom pa <;> rfl

theorem offsetFrom_eq {base : Nat} {pa : Word} (hb : base < 2 ^ 32) (h : base ≤ pa.toNat) :
    offsetFrom base pa = pa.toNat - base := by
  simp only [offsetFrom, BitVec.toNat_sub, BitVec.toNat_ofNat]
  omega

theorem inDram_offset {pa : Word} (h : inDram pa = true) :
    offsetFrom Config.dramPbase pa = pa.toNat ∧ offsetFrom Config.dramPbase pa < Config.dramSize := by
  have e : offsetFrom Config.dramPbase pa = pa.toNat - 0 := offsetFrom_eq (by decide) (Nat.zero_le _)
  have h0 : Config.dramPbase + Config.dramSize = Config.dramSize := by decide
  simp only [inDram, h0, Bool.and_eq_true, decide_eq_true_eq] at h
  rw [e]
  exact ⟨rfl, h.2⟩

theorem inSram_offset {pa : Word} (h : inSram pa = true) :
    offsetFrom Config.sramPbase pa + Config.sramPbase = pa.toNat ∧
      offsetFrom Config.sramPbase pa < Config.sramSize := by
  simp only [inSram, Bool.and_eq_true, decide_eq_true_eq] at h
  rw [offsetFrom_eq (by decide) h.1]
  generalize Config.sramPbase = p at *
  omega

/-! ### One byte -/

/-- A byte write changes the contents of DRAM, SRAM or the MMIO slots, and nothing else. -/
theorem MemSys.byteWrite_cases (m : MemSys) (va : Word) (b : Byte) :
    (∃ i : Fin 8, mmioWritable i = true ∧
      m.byteWrite va b = { m with mmio := m.mmio.set i.val (putByteLane m.mmio[i.val] (va.toNat % 4) b) }) ∨
    (∃ k, k < Config.dramSize ∧ m.byteWrite va b = { m with dram := m.dram.write k b }) ∨
    (∃ k, k < Config.sramSize ∧ m.byteWrite va b = { m with sram := m.sram.write k b }) ∨
    m.byteWrite va b = m := by
  unfold MemSys.byteWrite
  split
  · unfold MemSys.mmioByteWrite
    split
    · split
      · exact .inl ⟨_, by assumption, rfl⟩
      · exact .inr (.inr (.inr rfl))
    · exact .inr (.inr (.inr rfl))
  · generalize translate m.maps va = pa
    cases hd : inDram pa
    · cases hs : inSram pa
      · exact .inr (.inr (.inr (m.pByteWrite_other b hd hs)))
      · exact .inr (.inr (.inl ⟨_, (inSram_offset hs).2, m.pByteWrite_sram b hd hs⟩))
    · exact .inr (.inl ⟨_, (inDram_offset hd).2, m.pByteWrite_dram b hd⟩)

@[simp] theorem MemSys.byteWrite_maps (m : MemSys) (va : Word) (b : Byte) : (m.byteWrite va b).maps = m.maps := by
  obtain ⟨_, _, h⟩ | ⟨_, _, h⟩ | ⟨_, _, h⟩ | h := m.byteWrite_cases va b <;> rw [h]
@[simp] theorem MemSys.byteWrite_rom (m : MemSys) (va : Word) (b : Byte) : (m.byteWrite va b).rom = m.rom := by
  obtain ⟨_, _, h⟩ | ⟨_, _, h⟩ | ⟨_, _, h⟩ | h := m.byteWrite_cases va b <;> rw [h]
@[simp] theorem MemSys.byteWrite_romLoaded (m : MemSys) (va : Word) (b : Byte) :
    (m.byteWrite va b).romLoaded = m.romLoaded := by
  obtain ⟨_, _, h⟩ | ⟨_, _, h⟩ | ⟨_, _, h⟩ | h := m.byteWrite_cases va b <;> rw [h]
@[simp] theorem MemSys.byteWrite_memReady (m : MemSys) (va : Word) (b : Byte) :
    (m.byteWrite va b).memReady = m.memReady := by
  obtain ⟨_, _, h⟩ | ⟨_, _, h⟩ | ⟨_, _, h⟩ | h := m.byteWrite_cases va b <;> rw [h]
@[simp] theorem MemSys.byteWrite_memReads (m : MemSys) (va : Word) (b : Byte) :
    (m.byteWrite va b).memReads = m.memReads := by
  obtain ⟨_, _, h⟩ | ⟨_, _, h⟩ | ⟨_, _, h⟩ | h := m.byteWrite_cases va b <;> rw [h]
@[simp] theorem MemSys.byteWrite_memWrites (m : MemSys) (va : Word) (b : Byte) :
    (m.byteWrite va b).memWrites = m.memWrites := by
  obtain ⟨_, _, h⟩ | ⟨_, _, h⟩ | ⟨_, _, h⟩ | h := m.byteWrite_cases va b <;> rw [h]

/-- Both arrays are canonical lists of their own bytes. -/
def MemSys.arraysOk (m : MemSys) : Prop :=
  (m.dram.wf ∧ m.dram.fits Config.dramSize) ∧ m.sram.wf ∧ m.sram.fits Config.sramSize

theorem MemSys.byteWrite_wf {m : MemSys} (va : Word) (b : Byte) (h : m.dram.wf ∧ m.sram.wf) :
    (m.byteWrite va b).dram.wf ∧ (m.byteWrite va b).sram.wf := by
  obtain ⟨_, _, e⟩ | ⟨k, _, e⟩ | ⟨k, _, e⟩ | e := m.byteWrite_cases va b <;> rw [e]
  · exact h
  · exact ⟨Memory.write_wf k b h.1, h.2⟩
  · exact ⟨h.1, Memory.write_wf k b h.2⟩
  · exact h

theorem MemSys.byteWrite_arraysOk {m : MemSys} (va : Word) (b : Byte) (h : m.arraysOk) :
    (m.byteWrite va b).arraysOk := by
  obtain ⟨_, _, e⟩ | ⟨k, hk, e⟩ | ⟨k, hk, e⟩ | e := m.byteWrite_cases va b <;> rw [e]
  · exact h
  · exact ⟨⟨Memory.write_wf k b h.1.1, Memory.write_fits k b h.1.2 hk⟩, h.2⟩
  · exact ⟨h.1, Memory.write_wf k b h.2.1, Memory.write_fits k b h.2.2 hk⟩
  · exact h

/-- The read-only slots are never written. -/
theorem MemSys.byteWrite_readOnlySlots (m : MemSys) (va : Word) (b : Byte) :
    (m.byteWrite va b).mmio[0] = m.mmio[0] ∧ (m.byteWrite va b).mmio[7] = m.mmio[7] := by
  obtain ⟨i, hi, e⟩ | ⟨_, _, e⟩ | ⟨_, _, e⟩ | e := m.byteWrite_cases va b <;> rw [e]
  · simp only [mmioWritable, Bool.and_eq_true, decide_eq_true_eq] at hi
    exact ⟨Vector.getElem_set_ne i.isLt (by decide) (by omega), Vector.getElem_set_ne i.isLt (by decide) (by omega)⟩
  all_goals exact ⟨rfl, rfl⟩

theorem MemSys.placeOf_congr {m m' : MemSys} (h : m'.maps = m.maps) : m'.placeOf = m.placeOf := by
  funext va; simp [MemSys.placeOf, h]

@[simp] theorem MemSys.byteWrite_placeOf (m : MemSys) (va : Word) (b : Byte) :
    (m.byteWrite va b).placeOf = m.placeOf := MemSys.placeOf_congr (m.byteWrite_maps va b)

theorem MemSys.byteRead_of_mmio (m : MemSys) {a : Word} (h : isMmio a = true) :
    m.byteRead a = m.mmioByteRead a := by simp [MemSys.byteRead, h]

theorem MemSys.byteRead_of_phys (m : MemSys) {a : Word} (h : isMmio a = false) :
    m.byteRead a = m.pByteRead (translate m.maps a) := by simp [MemSys.byteRead, h]

theorem MemSys.pByteRead_pByteWrite {m : MemSys} (h : m.dram.wf ∧ m.sram.wf) (pa pb : Word) (b : Byte) :
    (m.pByteWrite pa b).pByteRead pb =
      if pb = pa ∧ (inDram pa || inSram pa) = true then b else m.pByteRead pb := by
  cases hd : inDram pa
  · cases hs : inSram pa
    · simp [m.pByteWrite_other b hd hs]
    · rw [m.pByteWrite_sram b hd hs]
      cases hpd : inDram pb
      · cases hps : inSram pb
        · have hne : pb ≠ pa := by rintro rfl; simp [hs] at hps
          rw [MemSys.pByteRead_other _ hpd hps, MemSys.pByteRead_other _ hpd hps]
          simp [hne, MemSys.inRom]
        · rw [MemSys.pByteRead_sram _ hpd hps, MemSys.pByteRead_sram _ hpd hps, Memory.read_write _ _ h.2]
          have h1 := (inSram_offset hs).1
          have h2 := (inSram_offset hps).1
          have : offsetFrom Config.sramPbase pb = offsetFrom Config.sramPbase pa ↔ pb = pa :=
            ⟨fun h => BitVec.eq_of_toNat_eq (by rw [← h1, ← h2, h]), fun h => by rw [h]⟩
          simp [this]
      · have hne : pb ≠ pa := by rintro rfl; simp [hd] at hpd
        rw [MemSys.pByteRead_dram _ hpd, MemSys.pByteRead_dram _ hpd]
        simp [hne]
  · rw [m.pByteWrite_dram b hd]
    cases hpd : inDram pb
    · have hne : pb ≠ pa := by rintro rfl; simp [hd] at hpd
      cases hps : inSram pb
      · rw [MemSys.pByteRead_other _ hpd hps, MemSys.pByteRead_other _ hpd hps]
        simp [hne, MemSys.inRom]
      · rw [MemSys.pByteRead_sram _ hpd hps, MemSys.pByteRead_sram _ hpd hps]
        simp [hne]
    · rw [MemSys.pByteRead_dram _ hpd, MemSys.pByteRead_dram _ hpd, Memory.read_write _ _ h.1]
      have h1 := (inDram_offset hd).1
      have h2 := (inDram_offset hpd).1
      have : offsetFrom Config.dramPbase pb = offsetFrom Config.dramPbase pa ↔ pb = pa :=
        ⟨fun h => BitVec.eq_of_toNat_eq (by rw [← h1, ← h2, h]), fun h => by rw [h]⟩
      simp [this]

/-- A byte written is read at every address of its place, if the place takes writes; every other byte is kept. -/
theorem MemSys.byteRead_byteWrite {m : MemSys} (h : m.dram.wf ∧ m.sram.wf) (va a : Word) (b : Byte) :
    (m.byteWrite va b).byteRead a =
      if m.placeOf a = m.placeOf va ∧ (m.placeOf va).writable = true then b else m.byteRead a := by
  cases hv : isMmio va <;> cases ha : isMmio a
  · rw [MemSys.byteRead_of_phys _ ha, MemSys.byteWrite_maps, MemSys.byteRead_of_phys _ ha]
    simp only [MemSys.byteWrite, hv, Bool.false_eq_true, if_false]
    rw [MemSys.pByteRead_pByteWrite h]
    simp [MemSys.placeOf, hv, ha, Place.writable]
  · rw [MemSys.byteRead_of_mmio _ ha, MemSys.byteRead_of_mmio _ ha]
    simp only [MemSys.byteWrite, hv, Bool.false_eq_true, if_false]
    have : ∀ pa, (m.pByteWrite pa b).mmio = m.mmio := fun pa => by
      unfold MemSys.pByteWrite; split <;> rfl
    simp [MemSys.placeOf, hv, ha, MemSys.mmioByteRead, MemSys.mmioWord, this]
  · rw [MemSys.byteRead_of_phys _ ha, MemSys.byteWrite_maps, MemSys.byteRead_of_phys _ ha]
    simp only [MemSys.byteWrite, hv, if_true]
    have : ∀ pa, (m.mmioByteWrite va b).pByteRead pa = m.pByteRead pa := fun pa => by
      unfold MemSys.mmioByteWrite
      split
      · split <;> rfl
      · rfl
    simp [MemSys.placeOf, hv, ha, this]
  · rw [MemSys.byteRead_of_mmio _ ha, MemSys.byteRead_of_mmio _ ha]
    simp only [MemSys.byteWrite, hv, if_true]
    rw [MemSys.mmioByteRead_mmioByteWrite _ _ _ _ hv ha]
    simp [MemSys.placeOf, hv, ha, Place.writable]

/-! ### Several bytes -/

theorem MemSys.writeBytes_induct {P : MemSys → Prop} {bs : List Byte} {m : MemSys} {va : Word}
    (h : P m) (hs : ∀ m va b, P m → P (m.byteWrite va b)) : P (m.writeBytes va bs) := by
  induction bs generalizing m va with
  | nil => exact h
  | cons b bs ih => exact ih (hs _ _ _ h)

@[simp] theorem MemSys.writeBytes_maps (m : MemSys) (va : Word) (bs : List Byte) :
    (m.writeBytes va bs).maps = m.maps :=
  MemSys.writeBytes_induct (P := fun n => n.maps = m.maps) rfl fun _ _ _ h => by simpa using h
@[simp] theorem MemSys.writeBytes_rom (m : MemSys) (va : Word) (bs : List Byte) :
    (m.writeBytes va bs).rom = m.rom :=
  MemSys.writeBytes_induct (P := fun n => n.rom = m.rom) rfl fun _ _ _ h => by simpa using h
@[simp] theorem MemSys.writeBytes_romLoaded (m : MemSys) (va : Word) (bs : List Byte) :
    (m.writeBytes va bs).romLoaded = m.romLoaded :=
  MemSys.writeBytes_induct (P := fun n => n.romLoaded = m.romLoaded) rfl fun _ _ _ h => by simpa using h
@[simp] theorem MemSys.writeBytes_memReady (m : MemSys) (va : Word) (bs : List Byte) :
    (m.writeBytes va bs).memReady = m.memReady :=
  MemSys.writeBytes_induct (P := fun n => n.memReady = m.memReady) rfl fun _ _ _ h => by simpa using h
@[simp] theorem MemSys.writeBytes_memReads (m : MemSys) (va : Word) (bs : List Byte) :
    (m.writeBytes va bs).memReads = m.memReads :=
  MemSys.writeBytes_induct (P := fun n => n.memReads = m.memReads) rfl fun _ _ _ h => by simpa using h
@[simp] theorem MemSys.writeBytes_memWrites (m : MemSys) (va : Word) (bs : List Byte) :
    (m.writeBytes va bs).memWrites = m.memWrites :=
  MemSys.writeBytes_induct (P := fun n => n.memWrites = m.memWrites) rfl fun _ _ _ h => by simpa using h

theorem MemSys.writeBytes_wf {m : MemSys} (va : Word) (bs : List Byte) (h : m.dram.wf ∧ m.sram.wf) :
    (m.writeBytes va bs).dram.wf ∧ (m.writeBytes va bs).sram.wf :=
  MemSys.writeBytes_induct (P := fun n => n.dram.wf ∧ n.sram.wf) h fun _ _ _ h => MemSys.byteWrite_wf _ _ h

theorem MemSys.writeBytes_arraysOk {m : MemSys} (va : Word) (bs : List Byte) (h : m.arraysOk) :
    (m.writeBytes va bs).arraysOk :=
  MemSys.writeBytes_induct h fun _ _ _ h => MemSys.byteWrite_arraysOk _ _ h

theorem MemSys.writeBytes_readOnlySlots (m : MemSys) (va : Word) (bs : List Byte) :
    (m.writeBytes va bs).mmio[0] = m.mmio[0] ∧ (m.writeBytes va bs).mmio[7] = m.mmio[7] :=
  MemSys.writeBytes_induct (P := fun n => n.mmio[0] = m.mmio[0] ∧ n.mmio[7] = m.mmio[7]) ⟨rfl, rfl⟩
    fun n va b h => by
      obtain ⟨h0, h7⟩ := n.byteWrite_readOnlySlots va b
      exact ⟨h0.trans h.1, h7.trans h.2⟩

theorem Word.add_succ (va : Word) (k : Nat) :
    va + 1#32 + BitVec.ofNat 32 k = va + BitVec.ofNat 32 (k + 1) := by
  apply BitVec.eq_of_toNat_eq
  simp only [BitVec.toNat_add, BitVec.toNat_ofNat]
  omega

/-- A byte no write of the list reaches is kept. -/
theorem MemSys.writeBytes_miss {m : MemSys} (h : m.dram.wf ∧ m.sram.wf) (va a : Word) (bs : List Byte)
    (ha : ∀ k, k < bs.length → m.placeOf a ≠ m.placeOf (va + BitVec.ofNat 32 k)) :
    (m.writeBytes va bs).byteRead a = m.byteRead a := by
  induction bs generalizing m va with
  | nil => rfl
  | cons b bs ih =>
    rw [MemSys.writeBytes, ih (MemSys.byteWrite_wf va b h), MemSys.byteRead_byteWrite h, if_neg]
    · rintro ⟨e, _⟩
      exact ha 0 (by simp) (by simpa using e)
    · intro k hk
      rw [MemSys.byteWrite_placeOf, Word.add_succ]
      exact ha (k + 1) (by simpa using hk)

/-- The last byte of the list written to the place of `a` is what `a` reads. -/
theorem MemSys.writeBytes_hit {m : MemSys} (h : m.dram.wf ∧ m.sram.wf) (va a : Word) (bs : List Byte) (k : Nat)
    (hk : k < bs.length) (he : m.placeOf a = m.placeOf (va + BitVec.ofNat 32 k))
    (hw : (m.placeOf a).writable = true)
    (hl : ∀ j, k < j → j < bs.length → m.placeOf a ≠ m.placeOf (va + BitVec.ofNat 32 j)) :
    (m.writeBytes va bs).byteRead a = bs[k] := by
  induction bs generalizing m va k with
  | nil => simp at hk
  | cons b bs ih =>
    rw [MemSys.writeBytes]
    cases k with
    | zero =>
      rw [MemSys.writeBytes_miss (MemSys.byteWrite_wf va b h)]
      · have e : m.placeOf a = m.placeOf va := by simpa using he
        rw [MemSys.byteRead_byteWrite h, if_pos ⟨e, e ▸ hw⟩]; rfl
      · intro j hj
        rw [MemSys.byteWrite_placeOf, Word.add_succ]
        exact hl (j + 1) (by omega) (by simpa using hj)
    | succ k =>
      have := ih (MemSys.byteWrite_wf va b h) (va + 1#32) k (by simpa using hk)
        (by rw [MemSys.byteWrite_placeOf, Word.add_succ]; exact he)
        (by rw [MemSys.byteWrite_placeOf]; exact hw)
        (fun j hj hj' => by
          rw [MemSys.byteWrite_placeOf, Word.add_succ]; exact hl (j + 1) (by omega) (by simpa using hj'))
      simpa using this

theorem MemSys.writeBytes_readOnly {m : MemSys} (h : m.dram.wf ∧ m.sram.wf) (va a : Word) (bs : List Byte)
    (hw : (m.placeOf a).writable = false) : (m.writeBytes va bs).byteRead a = m.byteRead a := by
  induction bs generalizing m va with
  | nil => rfl
  | cons b bs ih =>
    rw [MemSys.writeBytes, ih (MemSys.byteWrite_wf va b h) _ (by rw [MemSys.byteWrite_placeOf]; exact hw),
      MemSys.byteRead_byteWrite h, if_neg]
    rintro ⟨e, e'⟩
    rw [← e, hw] at e'; exact absurd e' (by decide)

/-! ### Values as bytes -/

@[simp] theorem length_beBytes {w : Nat} (v : BitVec w) (n : Nat) : (beBytes v n).length = n := by
  induction n with
  | zero => rfl
  | succ n ih => simp [beBytes, ih]

theorem getElem_beBytes {w : Nat} (v : BitVec w) (n k : Nat) (h : k < (beBytes v n).length) :
    (beBytes v n)[k] = v.extractLsb' (8 * (n - 1 - k)) 8 := by
  induction n generalizing k with
  | zero => simp [beBytes] at h
  | succ n ih =>
    cases k with
    | zero => simp [beBytes]
    | succ k =>
      simp only [beBytes, List.getElem_cons_succ]
      rw [ih k (by simpa [beBytes] using h)]
      congr 1; omega

/-- Writing the `n` low bytes of a value is `Stored`. -/
theorem MemSys.stored_writeBytes {w : Nat} {m : MemSys} (h : m.dram.wf ∧ m.sram.wf) (va : Word) (n : Nat)
    (v : BitVec w) (bs : List Byte) (hl : bs.length = n)
    (hb : ∀ k (hk : k < bs.length), bs[k] = v.extractLsb' (8 * (n - 1 - k)) 8) :
    m.Stored va n v (m.writeBytes va bs) where
  hit k hk a he hw hlast := by
    rw [MemSys.writeBytes_hit h va a bs k (by omega) he hw (fun j h1 h2 => hlast j h1 (by omega)), hb]
  miss a ha := MemSys.writeBytes_miss h va a bs (fun k hk => ha k (by omega))
  readOnly a hw := MemSys.writeBytes_readOnly h va a bs hw

theorem MemSys.length_readBytes (m : MemSys) (va : Word) (n : Nat) : (m.readBytes va n).length = n := by
  induction n generalizing va with
  | zero => rfl
  | succ n ih => simp [MemSys.readBytes, ih]

theorem MemSys.getElem_readBytes (m : MemSys) (va : Word) (n k : Nat) (h : k < (m.readBytes va n).length) :
    (m.readBytes va n)[k] = m.byteRead (va + BitVec.ofNat 32 k) := by
  induction n generalizing va k with
  | zero => simp [MemSys.readBytes] at h
  | succ n ih =>
    cases k with
    | zero => simp [MemSys.readBytes]
    | succ k =>
      simp only [MemSys.readBytes, List.getElem_cons_succ]
      rw [ih _ _ (by simpa [MemSys.readBytes] using h), Word.add_succ]

theorem foldl_bytes {w : Nat} (bs : List Byte) (acc : BitVec w) (i : Nat) (hi : i < w) (hl : 8 * bs.length ≤ w) :
    (bs.foldl (fun (acc : BitVec w) (b : Byte) => (acc <<< 8) ||| b.setWidth w) acc).getLsbD i =
      if h : i / 8 < bs.length then (bs[bs.length - 1 - i / 8]).getLsbD (i % 8)
      else acc.getLsbD (i - 8 * bs.length) := by
  induction bs generalizing acc with
  | nil => simp
  | cons b bs ih =>
    rw [List.foldl_cons, ih _ (by simp at hl; omega)]
    simp only [List.length_cons]
    by_cases h1 : i / 8 < bs.length
    · rw [dif_pos h1, dif_pos (by omega)]
      congr 1
      rw [List.getElem_cons, dif_neg (by omega)]
      congr 1; omega
    · rw [dif_neg h1]
      by_cases h2 : i / 8 < bs.length + 1
      · rw [dif_pos h2]
        have e : bs.length + 1 - 1 - i / 8 = 0 := by omega
        simp only [BitVec.getLsbD_or, BitVec.getLsbD_shiftLeft, BitVec.getLsbD_setWidth]
        simp only [e, List.getElem_cons_zero]
        rw [show i - 8 * bs.length = i % 8 by omega]
        simp [show i % 8 < w by omega, show i % 8 < 8 by omega]
      · rw [dif_neg h2]
        simp only [BitVec.getLsbD_or, BitVec.getLsbD_shiftLeft, BitVec.getLsbD_setWidth]
        rw [BitVec.getLsbD_of_ge b _ (by omega)]
        simp [show i - 8 * bs.length < w by omega, show ¬ i - 8 * bs.length < 8 by omega]
        congr 1

/-- The bytes of the value of a list are the list. -/
theorem extractLsb'_ofBytes {w : Nat} (bs : List Byte) (hw : w = 8 * bs.length) (k : Nat) (hk : k < bs.length) :
    (ofBytes w bs).extractLsb' (8 * (bs.length - 1 - k)) 8 = bs[k] := by
  apply BitVec.eq_of_getLsbD_eq
  intro i hi
  rw [BitVec.getLsbD_extractLsb', decide_eq_true hi, Bool.true_and, ofBytes,
    foldl_bytes bs _ _ (by omega) (by omega), dif_pos (by omega)]
  congr 1
  · congr 1; omega
  · omega

/-- The value a counted read returns is what the bytes hold (R84). -/
theorem State.holds_memValue (s : State) (w n : Nat) (hw : w = 8 * n) (va : Word) :
    s.mem.Holds va n (s.memValue w n va) := by
  intro k hk
  have hl := s.mem.length_readBytes va n
  have := extractLsb'_ofBytes (w := w) (s.mem.readBytes va n) (by omega) k (by omega)
  rw [MemSys.getElem_readBytes] at this
  rw [State.memValue, ← this, hl]

/-- What the bytes hold is one value. -/
theorem MemSys.holds_unique {w : Nat} {m : MemSys} {va : Word} {n : Nat} {u v : BitVec w} (hw : w = 8 * n)
    (hu : m.Holds va n u) (hv : m.Holds va n v) : u = v := by
  apply BitVec.eq_of_getLsbD_eq
  intro i hi
  have hk : n - 1 - i / 8 < n := by omega
  have := congrArg (fun b : Byte => b.getLsbD (i % 8)) ((hu _ hk).symm.trans (hv _ hk))
  simpa [show i % 8 < 8 by omega, show 8 * (n - 1 - (n - 1 - i / 8)) + i % 8 = i by omega] using this

end Sys2Proof.Machine
end

