-- ==== Sys2Proof/Laws/State.lean ====
section
/-! SUPPORT. What each update of the state does to each of its parts, one lemma per part, so that no proof unfolds
a record update. -/

namespace Sys2Proof.Machine

/-! ### `State.setX` -/

@[simp] theorem State.setX_x (s : State) (i : Reg) (v : Word) (j : Reg) : (s.setX i v).x j = if j = i ∧ i ≠ 0 then v else s.x j := by
  unfold State.x State.setX
  by_cases hi : i = 0
  · simp [hi]
  · by_cases hj : j = i
    · subst hj; simp [hi]
    · have : i.val ≠ j.val := fun h => hj (Fin.ext h.symm)
      simp [hi, hj, Vector.getElem_set_ne, this]

@[simp] theorem State.setX_hi (s : State) (i : Reg) (v : Word) : (s.setX i v).cpu.hi = s.cpu.hi := by
  unfold State.setX; split <;> rfl
@[simp] theorem State.setX_lo (s : State) (i : Reg) (v : Word) : (s.setX i v).cpu.lo = s.cpu.lo := by
  unfold State.setX; split <;> rfl
@[simp] theorem State.setX_pc (s : State) (i : Reg) (v : Word) : (s.setX i v).cpu.pc = s.cpu.pc := by
  unfold State.setX; split <;> rfl
@[simp] theorem State.setX_delay (s : State) (i : Reg) (v : Word) : (s.setX i v).cpu.delay = s.cpu.delay := by
  unfold State.setX; split <;> rfl
@[simp] theorem State.setX_llbit (s : State) (i : Reg) (v : Word) : (s.setX i v).cpu.llbit = s.cpu.llbit := by
  unfold State.setX; split <;> rfl
@[simp] theorem State.setX_cp0 (s : State) (i : Reg) (v : Word) (j : Reg) : (s.setX i v).cp0 j = s.cp0 j := by
  unfold State.setX; split <;> rfl
@[simp] theorem State.setX_fpr (s : State) (i : Reg) (v : Word) (j : Reg) : (s.setX i v).fpr j = s.fpr j := by
  unfold State.setX; split <;> rfl
@[simp] theorem State.setX_fcr (s : State) (i : Reg) (v : Word) (j : Reg) : (s.setX i v).fcr j = s.fcr j := by
  unfold State.setX; split <;> rfl
@[simp] theorem State.setX_ctl (s : State) (i : Reg) (v : Word) : (s.setX i v).ctl = s.ctl := by
  unfold State.setX; split <;> rfl
@[simp] theorem State.setX_mem (s : State) (i : Reg) (v : Word) : (s.setX i v).mem = s.mem := by
  unfold State.setX; split <;> rfl
@[simp] theorem State.setX_agenda (s : State) (i : Reg) (v : Word) : (s.setX i v).agenda = s.agenda := by
  unfold State.setX; split <;> rfl
@[simp] theorem State.setX_runCall (s : State) (i : Reg) (v : Word) : (s.setX i v).runCall = s.runCall := by
  unfold State.setX; split <;> rfl
@[simp] theorem State.setX_replies (s : State) (i : Reg) (v : Word) : (s.setX i v).replies = s.replies := by
  unfold State.setX; split <;> rfl

/-! ### `State.setHi` -/

@[simp] theorem State.setHi_x (s : State) (v : Word) (j : Reg) : (s.setHi v).x j = s.x j := rfl
@[simp] theorem State.setHi_hi (s : State) (v : Word) : (s.setHi v).cpu.hi = v := rfl
@[simp] theorem State.setHi_lo (s : State) (v : Word) : (s.setHi v).cpu.lo = s.cpu.lo := rfl
@[simp] theorem State.setHi_pc (s : State) (v : Word) : (s.setHi v).cpu.pc = s.cpu.pc := rfl
@[simp] theorem State.setHi_delay (s : State) (v : Word) : (s.setHi v).cpu.delay = s.cpu.delay := rfl
@[simp] theorem State.setHi_llbit (s : State) (v : Word) : (s.setHi v).cpu.llbit = s.cpu.llbit := rfl
@[simp] theorem State.setHi_cp0 (s : State) (v : Word) (j : Reg) : (s.setHi v).cp0 j = s.cp0 j := rfl
@[simp] theorem State.setHi_fpr (s : State) (v : Word) (j : Reg) : (s.setHi v).fpr j = s.fpr j := rfl
@[simp] theorem State.setHi_fcr (s : State) (v : Word) (j : Reg) : (s.setHi v).fcr j = s.fcr j := rfl
@[simp] theorem State.setHi_ctl (s : State) (v : Word) : (s.setHi v).ctl = s.ctl := rfl
@[simp] theorem State.setHi_mem (s : State) (v : Word) : (s.setHi v).mem = s.mem := rfl
@[simp] theorem State.setHi_agenda (s : State) (v : Word) : (s.setHi v).agenda = s.agenda := rfl
@[simp] theorem State.setHi_runCall (s : State) (v : Word) : (s.setHi v).runCall = s.runCall := rfl
@[simp] theorem State.setHi_replies (s : State) (v : Word) : (s.setHi v).replies = s.replies := rfl

/-! ### `State.setLo` -/

@[simp] theorem State.setLo_x (s : State) (v : Word) (j : Reg) : (s.setLo v).x j = s.x j := rfl
@[simp] theorem State.setLo_hi (s : State) (v : Word) : (s.setLo v).cpu.hi = s.cpu.hi := rfl
@[simp] theorem State.setLo_lo (s : State) (v : Word) : (s.setLo v).cpu.lo = v := rfl
@[simp] theorem State.setLo_pc (s : State) (v : Word) : (s.setLo v).cpu.pc = s.cpu.pc := rfl
@[simp] theorem State.setLo_delay (s : State) (v : Word) : (s.setLo v).cpu.delay = s.cpu.delay := rfl
@[simp] theorem State.setLo_llbit (s : State) (v : Word) : (s.setLo v).cpu.llbit = s.cpu.llbit := rfl
@[simp] theorem State.setLo_cp0 (s : State) (v : Word) (j : Reg) : (s.setLo v).cp0 j = s.cp0 j := rfl
@[simp] theorem State.setLo_fpr (s : State) (v : Word) (j : Reg) : (s.setLo v).fpr j = s.fpr j := rfl
@[simp] theorem State.setLo_fcr (s : State) (v : Word) (j : Reg) : (s.setLo v).fcr j = s.fcr j := rfl
@[simp] theorem State.setLo_ctl (s : State) (v : Word) : (s.setLo v).ctl = s.ctl := rfl
@[simp] theorem State.setLo_mem (s : State) (v : Word) : (s.setLo v).mem = s.mem := rfl
@[simp] theorem State.setLo_agenda (s : State) (v : Word) : (s.setLo v).agenda = s.agenda := rfl
@[simp] theorem State.setLo_runCall (s : State) (v : Word) : (s.setLo v).runCall = s.runCall := rfl
@[simp] theorem State.setLo_replies (s : State) (v : Word) : (s.setLo v).replies = s.replies := rfl

/-! ### `State.setPc` -/

@[simp] theorem State.setPc_x (s : State) (v : Word) (j : Reg) : (s.setPc v).x j = s.x j := rfl
@[simp] theorem State.setPc_hi (s : State) (v : Word) : (s.setPc v).cpu.hi = s.cpu.hi := rfl
@[simp] theorem State.setPc_lo (s : State) (v : Word) : (s.setPc v).cpu.lo = s.cpu.lo := rfl
@[simp] theorem State.setPc_pc (s : State) (v : Word) : (s.setPc v).cpu.pc = v := rfl
@[simp] theorem State.setPc_delay (s : State) (v : Word) : (s.setPc v).cpu.delay = s.cpu.delay := rfl
@[simp] theorem State.setPc_llbit (s : State) (v : Word) : (s.setPc v).cpu.llbit = s.cpu.llbit := rfl
@[simp] theorem State.setPc_cp0 (s : State) (v : Word) (j : Reg) : (s.setPc v).cp0 j = s.cp0 j := rfl
@[simp] theorem State.setPc_fpr (s : State) (v : Word) (j : Reg) : (s.setPc v).fpr j = s.fpr j := rfl
@[simp] theorem State.setPc_fcr (s : State) (v : Word) (j : Reg) : (s.setPc v).fcr j = s.fcr j := rfl
@[simp] theorem State.setPc_ctl (s : State) (v : Word) : (s.setPc v).ctl = s.ctl := rfl
@[simp] theorem State.setPc_mem (s : State) (v : Word) : (s.setPc v).mem = s.mem := rfl
@[simp] theorem State.setPc_agenda (s : State) (v : Word) : (s.setPc v).agenda = s.agenda := rfl
@[simp] theorem State.setPc_runCall (s : State) (v : Word) : (s.setPc v).runCall = s.runCall := rfl
@[simp] theorem State.setPc_replies (s : State) (v : Word) : (s.setPc v).replies = s.replies := rfl

/-! ### `State.setDelay` -/

@[simp] theorem State.setDelay_x (s : State) (d : Delay) (j : Reg) : (s.setDelay d).x j = s.x j := rfl
@[simp] theorem State.setDelay_hi (s : State) (d : Delay) : (s.setDelay d).cpu.hi = s.cpu.hi := rfl
@[simp] theorem State.setDelay_lo (s : State) (d : Delay) : (s.setDelay d).cpu.lo = s.cpu.lo := rfl
@[simp] theorem State.setDelay_pc (s : State) (d : Delay) : (s.setDelay d).cpu.pc = s.cpu.pc := rfl
@[simp] theorem State.setDelay_delay (s : State) (d : Delay) : (s.setDelay d).cpu.delay = d := rfl
@[simp] theorem State.setDelay_llbit (s : State) (d : Delay) : (s.setDelay d).cpu.llbit = s.cpu.llbit := rfl
@[simp] theorem State.setDelay_cp0 (s : State) (d : Delay) (j : Reg) : (s.setDelay d).cp0 j = s.cp0 j := rfl
@[simp] theorem State.setDelay_fpr (s : State) (d : Delay) (j : Reg) : (s.setDelay d).fpr j = s.fpr j := rfl
@[simp] theorem State.setDelay_fcr (s : State) (d : Delay) (j : Reg) : (s.setDelay d).fcr j = s.fcr j := rfl
@[simp] theorem State.setDelay_ctl (s : State) (d : Delay) : (s.setDelay d).ctl = s.ctl := rfl
@[simp] theorem State.setDelay_mem (s : State) (d : Delay) : (s.setDelay d).mem = s.mem := rfl
@[simp] theorem State.setDelay_agenda (s : State) (d : Delay) : (s.setDelay d).agenda = s.agenda := rfl
@[simp] theorem State.setDelay_runCall (s : State) (d : Delay) : (s.setDelay d).runCall = s.runCall := rfl
@[simp] theorem State.setDelay_replies (s : State) (d : Delay) : (s.setDelay d).replies = s.replies := rfl

/-! ### `State.setLL` -/

@[simp] theorem State.setLL_x (s : State) (b : Bool) (j : Reg) : (s.setLL b).x j = s.x j := rfl
@[simp] theorem State.setLL_hi (s : State) (b : Bool) : (s.setLL b).cpu.hi = s.cpu.hi := rfl
@[simp] theorem State.setLL_lo (s : State) (b : Bool) : (s.setLL b).cpu.lo = s.cpu.lo := rfl
@[simp] theorem State.setLL_pc (s : State) (b : Bool) : (s.setLL b).cpu.pc = s.cpu.pc := rfl
@[simp] theorem State.setLL_delay (s : State) (b : Bool) : (s.setLL b).cpu.delay = s.cpu.delay := rfl
@[simp] theorem State.setLL_llbit (s : State) (b : Bool) : (s.setLL b).cpu.llbit = b := rfl
@[simp] theorem State.setLL_cp0 (s : State) (b : Bool) (j : Reg) : (s.setLL b).cp0 j = s.cp0 j := rfl
@[simp] theorem State.setLL_fpr (s : State) (b : Bool) (j : Reg) : (s.setLL b).fpr j = s.fpr j := rfl
@[simp] theorem State.setLL_fcr (s : State) (b : Bool) (j : Reg) : (s.setLL b).fcr j = s.fcr j := rfl
@[simp] theorem State.setLL_ctl (s : State) (b : Bool) : (s.setLL b).ctl = s.ctl := rfl
@[simp] theorem State.setLL_mem (s : State) (b : Bool) : (s.setLL b).mem = s.mem := rfl
@[simp] theorem State.setLL_agenda (s : State) (b : Bool) : (s.setLL b).agenda = s.agenda := rfl
@[simp] theorem State.setLL_runCall (s : State) (b : Bool) : (s.setLL b).runCall = s.runCall := rfl
@[simp] theorem State.setLL_replies (s : State) (b : Bool) : (s.setLL b).replies = s.replies := rfl

/-! ### `State.setCp0` -/

@[simp] theorem State.setCp0_x (s : State) (i : Reg) (v : Word) (j : Reg) : (s.setCp0 i v).x j = s.x j := rfl
@[simp] theorem State.setCp0_hi (s : State) (i : Reg) (v : Word) : (s.setCp0 i v).cpu.hi = s.cpu.hi := rfl
@[simp] theorem State.setCp0_lo (s : State) (i : Reg) (v : Word) : (s.setCp0 i v).cpu.lo = s.cpu.lo := rfl
@[simp] theorem State.setCp0_pc (s : State) (i : Reg) (v : Word) : (s.setCp0 i v).cpu.pc = s.cpu.pc := rfl
@[simp] theorem State.setCp0_delay (s : State) (i : Reg) (v : Word) : (s.setCp0 i v).cpu.delay = s.cpu.delay := rfl
@[simp] theorem State.setCp0_llbit (s : State) (i : Reg) (v : Word) : (s.setCp0 i v).cpu.llbit = s.cpu.llbit := rfl
@[simp] theorem State.setCp0_cp0 (s : State) (i : Reg) (v : Word) (j : Reg) : (s.setCp0 i v).cp0 j = if j = i then v else s.cp0 j := by
  unfold State.cp0 State.setCp0
  by_cases hj : j = i
  · subst hj; simp
  · have : i.val ≠ j.val := fun h => hj (Fin.ext h.symm)
    simp [hj, Vector.getElem_set_ne, this]

@[simp] theorem State.setCp0_fpr (s : State) (i : Reg) (v : Word) (j : Reg) : (s.setCp0 i v).fpr j = s.fpr j := rfl
@[simp] theorem State.setCp0_fcr (s : State) (i : Reg) (v : Word) (j : Reg) : (s.setCp0 i v).fcr j = s.fcr j := rfl
@[simp] theorem State.setCp0_ctl (s : State) (i : Reg) (v : Word) : (s.setCp0 i v).ctl = s.ctl := rfl
@[simp] theorem State.setCp0_mem (s : State) (i : Reg) (v : Word) : (s.setCp0 i v).mem = s.mem := rfl
@[simp] theorem State.setCp0_agenda (s : State) (i : Reg) (v : Word) : (s.setCp0 i v).agenda = s.agenda := rfl
@[simp] theorem State.setCp0_runCall (s : State) (i : Reg) (v : Word) : (s.setCp0 i v).runCall = s.runCall := rfl
@[simp] theorem State.setCp0_replies (s : State) (i : Reg) (v : Word) : (s.setCp0 i v).replies = s.replies := rfl

/-! ### `State.setFpr` -/

@[simp] theorem State.setFpr_x (s : State) (i : Reg) (v : DWord) (j : Reg) : (s.setFpr i v).x j = s.x j := rfl
@[simp] theorem State.setFpr_hi (s : State) (i : Reg) (v : DWord) : (s.setFpr i v).cpu.hi = s.cpu.hi := rfl
@[simp] theorem State.setFpr_lo (s : State) (i : Reg) (v : DWord) : (s.setFpr i v).cpu.lo = s.cpu.lo := rfl
@[simp] theorem State.setFpr_pc (s : State) (i : Reg) (v : DWord) : (s.setFpr i v).cpu.pc = s.cpu.pc := rfl
@[simp] theorem State.setFpr_delay (s : State) (i : Reg) (v : DWord) : (s.setFpr i v).cpu.delay = s.cpu.delay := rfl
@[simp] theorem State.setFpr_llbit (s : State) (i : Reg) (v : DWord) : (s.setFpr i v).cpu.llbit = s.cpu.llbit := rfl
@[simp] theorem State.setFpr_cp0 (s : State) (i : Reg) (v : DWord) (j : Reg) : (s.setFpr i v).cp0 j = s.cp0 j := rfl
@[simp] theorem State.setFpr_fpr (s : State) (i : Reg) (v : DWord) (j : Reg) : (s.setFpr i v).fpr j = if j = i then v else s.fpr j := by
  unfold State.fpr State.setFpr
  by_cases hj : j = i
  · subst hj; simp
  · have : i.val ≠ j.val := fun h => hj (Fin.ext h.symm)
    simp [hj, Vector.getElem_set_ne, this]

@[simp] theorem State.setFpr_fcr (s : State) (i : Reg) (v : DWord) (j : Reg) : (s.setFpr i v).fcr j = s.fcr j := rfl
@[simp] theorem State.setFpr_ctl (s : State) (i : Reg) (v : DWord) : (s.setFpr i v).ctl = s.ctl := rfl
@[simp] theorem State.setFpr_mem (s : State) (i : Reg) (v : DWord) : (s.setFpr i v).mem = s.mem := rfl
@[simp] theorem State.setFpr_agenda (s : State) (i : Reg) (v : DWord) : (s.setFpr i v).agenda = s.agenda := rfl
@[simp] theorem State.setFpr_runCall (s : State) (i : Reg) (v : DWord) : (s.setFpr i v).runCall = s.runCall := rfl
@[simp] theorem State.setFpr_replies (s : State) (i : Reg) (v : DWord) : (s.setFpr i v).replies = s.replies := rfl

/-! ### `State.setFcr` -/

@[simp] theorem State.setFcr_x (s : State) (i : Reg) (v : Word) (j : Reg) : (s.setFcr i v).x j = s.x j := rfl
@[simp] theorem State.setFcr_hi (s : State) (i : Reg) (v : Word) : (s.setFcr i v).cpu.hi = s.cpu.hi := rfl
@[simp] theorem State.setFcr_lo (s : State) (i : Reg) (v : Word) : (s.setFcr i v).cpu.lo = s.cpu.lo := rfl
@[simp] theorem State.setFcr_pc (s : State) (i : Reg) (v : Word) : (s.setFcr i v).cpu.pc = s.cpu.pc := rfl
@[simp] theorem State.setFcr_delay (s : State) (i : Reg) (v : Word) : (s.setFcr i v).cpu.delay = s.cpu.delay := rfl
@[simp] theorem State.setFcr_llbit (s : State) (i : Reg) (v : Word) : (s.setFcr i v).cpu.llbit = s.cpu.llbit := rfl
@[simp] theorem State.setFcr_cp0 (s : State) (i : Reg) (v : Word) (j : Reg) : (s.setFcr i v).cp0 j = s.cp0 j := rfl
@[simp] theorem State.setFcr_fpr (s : State) (i : Reg) (v : Word) (j : Reg) : (s.setFcr i v).fpr j = s.fpr j := rfl
@[simp] theorem State.setFcr_fcr (s : State) (i : Reg) (v : Word) (j : Reg) : (s.setFcr i v).fcr j = if j = i then v else s.fcr j := by
  unfold State.fcr State.setFcr
  by_cases hj : j = i
  · subst hj; simp
  · have : i.val ≠ j.val := fun h => hj (Fin.ext h.symm)
    simp [hj, Vector.getElem_set_ne, this]

@[simp] theorem State.setFcr_ctl (s : State) (i : Reg) (v : Word) : (s.setFcr i v).ctl = s.ctl := rfl
@[simp] theorem State.setFcr_mem (s : State) (i : Reg) (v : Word) : (s.setFcr i v).mem = s.mem := rfl
@[simp] theorem State.setFcr_agenda (s : State) (i : Reg) (v : Word) : (s.setFcr i v).agenda = s.agenda := rfl
@[simp] theorem State.setFcr_runCall (s : State) (i : Reg) (v : Word) : (s.setFcr i v).runCall = s.runCall := rfl
@[simp] theorem State.setFcr_replies (s : State) (i : Reg) (v : Word) : (s.setFcr i v).replies = s.replies := rfl

/-! ### `State.count` -/

@[simp] theorem State.count_x (s : State) (j : Reg) : (s.count).x j = s.x j := rfl
@[simp] theorem State.count_hi (s : State) : (s.count).cpu.hi = s.cpu.hi := rfl
@[simp] theorem State.count_lo (s : State) : (s.count).cpu.lo = s.cpu.lo := rfl
@[simp] theorem State.count_pc (s : State) : (s.count).cpu.pc = s.cpu.pc := rfl
@[simp] theorem State.count_delay (s : State) : (s.count).cpu.delay = s.cpu.delay := rfl
@[simp] theorem State.count_llbit (s : State) : (s.count).cpu.llbit = s.cpu.llbit := rfl
@[simp] theorem State.count_cp0 (s : State) (j : Reg) : (s.count).cp0 j = s.cp0 j := rfl
@[simp] theorem State.count_fpr (s : State) (j : Reg) : (s.count).fpr j = s.fpr j := rfl
@[simp] theorem State.count_fcr (s : State) (j : Reg) : (s.count).fcr j = s.fcr j := rfl
@[simp] theorem State.count_cycles (s : State) : s.count.ctl.cycles = s.ctl.cycles + 1#64 := rfl
@[simp] theorem State.count_instructions (s : State) :
    s.count.ctl.instructions = s.ctl.instructions + 1#64 := rfl
@[simp] theorem State.count_runState (s : State) : s.count.ctl.runState = s.ctl.runState := rfl
@[simp] theorem State.count_execMode (s : State) : s.count.ctl.execMode = s.ctl.execMode := rfl
@[simp] theorem State.count_bp (s : State) : s.count.ctl.bp = s.ctl.bp := rfl
@[simp] theorem State.count_pendingExc (s : State) : s.count.ctl.pendingExc = s.ctl.pendingExc := rfl
@[simp] theorem State.count_initialized (s : State) : s.count.ctl.initialized = s.ctl.initialized := rfl
@[simp] theorem State.count_runCount (s : State) : s.count.ctl.runCount = s.ctl.runCount := rfl
@[simp] theorem State.count_stepReturn (s : State) : s.count.ctl.stepReturn = s.ctl.stepReturn := rfl
@[simp] theorem State.count_mem (s : State) : (s.count).mem = s.mem := rfl
@[simp] theorem State.count_agenda (s : State) : (s.count).agenda = s.agenda := rfl
@[simp] theorem State.count_runCall (s : State) : (s.count).runCall = s.runCall := rfl
@[simp] theorem State.count_replies (s : State) : (s.count).replies = s.replies := rfl

/-! ### `State.countRead` -/

@[simp] theorem State.countRead_x (s : State) (j : Reg) : (s.countRead).x j = s.x j := rfl
@[simp] theorem State.countRead_hi (s : State) : (s.countRead).cpu.hi = s.cpu.hi := rfl
@[simp] theorem State.countRead_lo (s : State) : (s.countRead).cpu.lo = s.cpu.lo := rfl
@[simp] theorem State.countRead_pc (s : State) : (s.countRead).cpu.pc = s.cpu.pc := rfl
@[simp] theorem State.countRead_delay (s : State) : (s.countRead).cpu.delay = s.cpu.delay := rfl
@[simp] theorem State.countRead_llbit (s : State) : (s.countRead).cpu.llbit = s.cpu.llbit := rfl
@[simp] theorem State.countRead_cp0 (s : State) (j : Reg) : (s.countRead).cp0 j = s.cp0 j := rfl
@[simp] theorem State.countRead_fpr (s : State) (j : Reg) : (s.countRead).fpr j = s.fpr j := rfl
@[simp] theorem State.countRead_fcr (s : State) (j : Reg) : (s.countRead).fcr j = s.fcr j := rfl
@[simp] theorem State.countRead_ctl (s : State) : (s.countRead).ctl = s.ctl := rfl
@[simp] theorem State.countRead_dram (s : State) : s.countRead.mem.dram = s.mem.dram := rfl
@[simp] theorem State.countRead_sram (s : State) : s.countRead.mem.sram = s.mem.sram := rfl
@[simp] theorem State.countRead_rom (s : State) : s.countRead.mem.rom = s.mem.rom := rfl
@[simp] theorem State.countRead_romLoaded (s : State) : s.countRead.mem.romLoaded = s.mem.romLoaded := rfl
@[simp] theorem State.countRead_maps (s : State) : s.countRead.mem.maps = s.mem.maps := rfl
@[simp] theorem State.countRead_mmio (s : State) : s.countRead.mem.mmio = s.mem.mmio := rfl
@[simp] theorem State.countRead_memWrites (s : State) : s.countRead.mem.memWrites = s.mem.memWrites := rfl
@[simp] theorem State.countRead_memReady (s : State) : s.countRead.mem.memReady = s.mem.memReady := rfl
@[simp] theorem State.countRead_memReads (s : State) :
    s.countRead.mem.memReads = s.mem.memReads + 1#64 := rfl
@[simp] theorem State.countRead_agenda (s : State) : (s.countRead).agenda = s.agenda := rfl
@[simp] theorem State.countRead_runCall (s : State) : (s.countRead).runCall = s.runCall := rfl
@[simp] theorem State.countRead_replies (s : State) : (s.countRead).replies = s.replies := rfl

/-! ### `State.memWrite` -/

@[simp] theorem State.memWrite_x (s : State) (a : Word) (bs : List Byte) (j : Reg) :
    (s.memWrite a bs).x j = s.x j := rfl
@[simp] theorem State.memWrite_hi (s : State) (a : Word) (bs : List Byte) : (s.memWrite a bs).cpu.hi = s.cpu.hi := rfl
@[simp] theorem State.memWrite_lo (s : State) (a : Word) (bs : List Byte) : (s.memWrite a bs).cpu.lo = s.cpu.lo := rfl
@[simp] theorem State.memWrite_pc (s : State) (a : Word) (bs : List Byte) : (s.memWrite a bs).cpu.pc = s.cpu.pc := rfl
@[simp] theorem State.memWrite_delay (s : State) (a : Word) (bs : List Byte) :
    (s.memWrite a bs).cpu.delay = s.cpu.delay := rfl
@[simp] theorem State.memWrite_llbit (s : State) (a : Word) (bs : List Byte) :
    (s.memWrite a bs).cpu.llbit = s.cpu.llbit := rfl
@[simp] theorem State.memWrite_cp0 (s : State) (a : Word) (bs : List Byte) (j : Reg) :
    (s.memWrite a bs).cp0 j = s.cp0 j := rfl
@[simp] theorem State.memWrite_fpr (s : State) (a : Word) (bs : List Byte) (j : Reg) :
    (s.memWrite a bs).fpr j = s.fpr j := rfl
@[simp] theorem State.memWrite_fcr (s : State) (a : Word) (bs : List Byte) (j : Reg) :
    (s.memWrite a bs).fcr j = s.fcr j := rfl
@[simp] theorem State.memWrite_ctl (s : State) (a : Word) (bs : List Byte) : (s.memWrite a bs).ctl = s.ctl := rfl
theorem State.memWrite_mem (s : State) (a : Word) (bs : List Byte) :
    (s.memWrite a bs).mem = { s.mem.writeBytes a bs with memWrites := s.mem.memWrites + 1#64 } := rfl
@[simp] theorem State.memWrite_agenda (s : State) (a : Word) (bs : List Byte) :
    (s.memWrite a bs).agenda = s.agenda := rfl
@[simp] theorem State.memWrite_runCall (s : State) (a : Word) (bs : List Byte) :
    (s.memWrite a bs).runCall = s.runCall := rfl
@[simp] theorem State.memWrite_replies (s : State) (a : Word) (bs : List Byte) :
    (s.memWrite a bs).replies = s.replies := rfl

/-! ### `x[0]` -/

/-- `x[0]` reads 0 (10_state.md R20). -/
@[simp] theorem State.x_zero (s : State) : s.x 0 = 0#32 := rfl

/-- A write of `x[0]` is discarded (R20). -/
@[simp] theorem State.setX_zero (s : State) (v : Word) : s.setX 0 v = s := rfl

/-! ### Derived reads and writes -/

theorem State.setFcsr_eq (s : State) (v : Word) : s.setFcsr v = s.setFcr regFCSR v := rfl
theorem State.setViewW_eq (s : State) (i : Reg) (v : Word) :
    s.setViewW i v = s.setFpr i ((s.fpr i).extractLsb' 32 32 ++ v) := rfl
theorem State.setViewD_eq (s : State) (i : Reg) (v : DWord) : s.setViewD i v = s.setFpr i v := rfl

end Sys2Proof.Machine
end

