-- ==== Sys2Proof/Laws/Ops.lean ====
section
/-! SUPPORT. One lemma for each shared operation that says everything it can do: the end of a cycle, trap entry,
the FPU's FCSR update, reads and writes. -/

namespace Sys2Proof.Machine

/-! ### Sequencing -/

theorem sequence_cases (out : Out) (s : State) : ∃ pc d, sequence out s = (s.setPc pc).setDelay d := by
  unfold sequence sequenceOut
  split
  · exact ⟨_, _, rfl⟩
  · exact ⟨_, _, rfl⟩
  all_goals split <;> exact ⟨_, _, rfl⟩

@[simp] theorem sequence_x (out : Out) (s : State) (j : Reg) : (sequence out s).x j = s.x j := by
  obtain ⟨_, _, h⟩ := sequence_cases out s; rw [h]; rfl
@[simp] theorem sequence_hi (out : Out) (s : State) : (sequence out s).cpu.hi = s.cpu.hi := by
  obtain ⟨_, _, h⟩ := sequence_cases out s; rw [h]; rfl
@[simp] theorem sequence_lo (out : Out) (s : State) : (sequence out s).cpu.lo = s.cpu.lo := by
  obtain ⟨_, _, h⟩ := sequence_cases out s; rw [h]; rfl
@[simp] theorem sequence_llbit (out : Out) (s : State) : (sequence out s).cpu.llbit = s.cpu.llbit := by
  obtain ⟨_, _, h⟩ := sequence_cases out s; rw [h]; rfl
@[simp] theorem sequence_cp0 (out : Out) (s : State) (j : Reg) : (sequence out s).cp0 j = s.cp0 j := by
  obtain ⟨_, _, h⟩ := sequence_cases out s; rw [h]; rfl
@[simp] theorem sequence_fpr (out : Out) (s : State) (j : Reg) : (sequence out s).fpr j = s.fpr j := by
  obtain ⟨_, _, h⟩ := sequence_cases out s; rw [h]; rfl
@[simp] theorem sequence_fcr (out : Out) (s : State) (j : Reg) : (sequence out s).fcr j = s.fcr j := by
  obtain ⟨_, _, h⟩ := sequence_cases out s; rw [h]; rfl
@[simp] theorem sequence_ctl (out : Out) (s : State) : (sequence out s).ctl = s.ctl := by
  obtain ⟨_, _, h⟩ := sequence_cases out s; rw [h]; rfl
@[simp] theorem sequence_mem (out : Out) (s : State) : (sequence out s).mem = s.mem := by
  obtain ⟨_, _, h⟩ := sequence_cases out s; rw [h]; rfl
@[simp] theorem sequence_agenda (out : Out) (s : State) : (sequence out s).agenda = s.agenda := by
  obtain ⟨_, _, h⟩ := sequence_cases out s; rw [h]; rfl
@[simp] theorem sequence_runCall (out : Out) (s : State) : (sequence out s).runCall = s.runCall := by
  obtain ⟨_, _, h⟩ := sequence_cases out s; rw [h]; rfl
@[simp] theorem sequence_replies (out : Out) (s : State) : (sequence out s).replies = s.replies := by
  obtain ⟨_, _, h⟩ := sequence_cases out s; rw [h]; rfl

theorem sequence_jump (t : Word) (s : State) : sequence (.jump t) s = (s.setPc t).setDelay .none := rfl

/-- Outside a delay slot the outcome alone decides (40_controller.md R149). -/
theorem sequence_none (out : Out) (s : State) (h : s.cpu.delay = .none) : sequence out s = sequenceOut out s := by
  unfold sequence; cases out <;> simp [h, sequenceOut]

/-- After `Next` (R149). -/
theorem advances_sequence (s u : State) (hp : u.cpu.pc = s.cpu.pc) (hd : u.cpu.delay = s.cpu.delay) :
    Advances s (sequence .next u) := by
  unfold Advances sequence
  rw [← hd, ← hp]
  cases u.cpu.delay <;> simp [sequenceOut]

/-! ### Frames -/

/-- The state `u` differs from `s` in the listed parts only, and has the counters, `pc` and `delay` of `s`: what the
writes of an instruction do before its cycle ends. -/
structure Edits (parts : List Part) (s u : State) : Prop where
  only : OnlyChanges parts s u
  pc : u.cpu.pc = s.cpu.pc
  delay : u.cpu.delay = s.cpu.delay
  cycles : u.ctl.cycles = s.ctl.cycles
  instructions : u.ctl.instructions = s.ctl.instructions

theorem OnlyChanges.refl (parts : List Part) (s : State) : OnlyChanges parts s s := by
  constructor <;> intros <;> simp

theorem OnlyChanges.mono {p q : List Part} {s t : State} (h : OnlyChanges p s t) (hpq : ∀ a ∈ p, a ∈ q) :
    OnlyChanges q s t where
  gpr r hr := h.gpr r (fun m => hr (hpq _ m))
  hi hr := h.hi (fun m => hr (hpq _ m))
  lo hr := h.lo (fun m => hr (hpq _ m))
  llbit hr := h.llbit (fun m => hr (hpq _ m))
  cp0 r hr := h.cp0 r (fun m => hr (hpq _ m))
  fpr r hr := h.fpr r (fun m => hr (hpq _ m))
  fcr r hr := h.fcr r (fun m => hr (hpq _ m))
  bytes hr := h.bytes (fun m => hr (hpq _ m))
  cells hr := h.cells (fun m => hr (hpq _ m))
  memReads hr := h.memReads (fun m => hr (hpq _ m))
  memWrites hr := h.memWrites (fun m => hr (hpq _ m))
  memory := h.memory
  control := h.control
  host := h.host

theorem OnlyChanges.trans {p q : List Part} {s t u : State} (h : OnlyChanges p s t) (k : OnlyChanges q t u) :
    OnlyChanges (p ++ q) s u := by
  constructor
  all_goals try simp only [List.mem_append, not_or]
  · exact fun r hr => (k.gpr r hr.2).trans (h.gpr r hr.1)
  · exact fun hr => (k.hi hr.2).trans (h.hi hr.1)
  · exact fun hr => (k.lo hr.2).trans (h.lo hr.1)
  · exact fun hr => (k.llbit hr.2).trans (h.llbit hr.1)
  · exact fun r hr => (k.cp0 r hr.2).trans (h.cp0 r hr.1)
  · exact fun r hr => (k.fpr r hr.2).trans (h.fpr r hr.1)
  · exact fun r hr => (k.fcr r hr.2).trans (h.fcr r hr.1)
  · exact fun hr a => (k.bytes hr.2 a).trans (h.bytes hr.1 a)
  · exact fun hr => ⟨(k.cells hr.2).1.trans (h.cells hr.1).1, (k.cells hr.2).2.1.trans (h.cells hr.1).2.1,
      (k.cells hr.2).2.2.trans (h.cells hr.1).2.2⟩
  · exact fun hr => (k.memReads hr.2).trans (h.memReads hr.1)
  · exact fun hr => (k.memWrites hr.2).trans (h.memWrites hr.1)
  · obtain ⟨a, b, c, d⟩ := h.memory
    obtain ⟨a', b', c', d'⟩ := k.memory
    exact ⟨a'.trans a, b'.trans b, c'.trans c, d'.trans d⟩
  · obtain ⟨a, b, c, d, e, f, g⟩ := h.control
    obtain ⟨a', b', c', d', e', f', g'⟩ := k.control
    exact ⟨a'.trans a, b'.trans b, c'.trans c, d'.trans d, e'.trans e, f'.trans f, g'.trans g⟩
  · exact ⟨k.host.1.trans h.host.1, k.host.2.1.trans h.host.2.1, k.host.2.2.trans h.host.2.2⟩

theorem Edits.refl (parts : List Part) (s : State) : Edits parts s s :=
  ⟨OnlyChanges.refl parts s, rfl, rfl, rfl, rfl⟩

theorem Edits.trans {p q : List Part} {s t u : State} (h : Edits p s t) (k : Edits q t u) : Edits (p ++ q) s u :=
  ⟨h.only.trans k.only, k.pc.trans h.pc, k.delay.trans h.delay, k.cycles.trans h.cycles,
    k.instructions.trans h.instructions⟩

theorem Edits.mono {p q : List Part} {s t : State} (h : Edits p s t) (hpq : ∀ a ∈ p, a ∈ q) : Edits q s t :=
  ⟨h.only.mono hpq, h.pc, h.delay, h.cycles, h.instructions⟩

theorem edits_setX (s : State) (r : Reg) (v : Word) : Edits [.gpr r] s (s.setX r v) := by
  constructor
  · constructor <;> intros <;> simp_all
  all_goals simp

theorem edits_setHi (s : State) (v : Word) : Edits [.hi] s (s.setHi v) := by
  constructor
  · constructor <;> intros <;> simp_all
  all_goals simp

theorem edits_setLo (s : State) (v : Word) : Edits [.lo] s (s.setLo v) := by
  constructor
  · constructor <;> intros <;> simp_all
  all_goals simp

theorem edits_setLL (s : State) (b : Bool) : Edits [.llbit] s (s.setLL b) := by
  constructor
  · constructor <;> intros <;> simp_all
  all_goals simp

theorem edits_setCp0 (s : State) (r : Reg) (v : Word) : Edits [.cp0 r] s (s.setCp0 r v) := by
  constructor
  · constructor <;> intros <;> simp_all
  all_goals simp

theorem edits_setFpr (s : State) (r : Reg) (v : DWord) : Edits [.fpr r] s (s.setFpr r v) := by
  constructor
  · constructor <;> intros <;> simp_all
  all_goals simp

theorem edits_setFcr (s : State) (r : Reg) (v : Word) : Edits [.fcr r] s (s.setFcr r v) := by
  constructor
  · constructor <;> intros <;> simp_all
  all_goals simp

theorem edits_countRead (s : State) : Edits [.memReads] s s.countRead := by
  constructor
  · constructor <;> intros <;> first | rfl | simp_all
  all_goals rfl

theorem edits_memWrite (s : State) (va : Word) (bs : List Byte) :
    Edits [.bytes, .memWrites] s (s.memWrite va bs) := by
  constructor
  · constructor <;> intros <;> simp_all [State.memWrite_mem]
  all_goals rfl

/-! ### The end of an instruction -/

/-- What the end of a cycle does to a state edited from `s`. -/
theorem finish_spec {parts : List Part} {s u : State} (out : Out) (h : Edits parts s u) :
    Counted s (sequence out u.count) ∧ OnlyChanges parts s (sequence out u.count) := by
  have ho : OnlyChanges [] u (sequence out u.count) := by
    constructor <;> intros <;> simp
  refine ⟨⟨?_, ?_⟩, (h.only.trans ho).mono (by simp)⟩
  · simp [h.cycles]
  · simp [h.instructions]

/-- An instruction that edits the state and ends with `Next` completes. -/
theorem completes_of {i : Instr} {parts : List Part} {s u : State} {result : State → Prop}
    (he : exec i s = complete u) (h : Edits parts s u) (hr : result (sequence .next u.count)) :
    Completes i s parts result :=
  ⟨_, he, advances_sequence s _ h.pc h.delay, (finish_spec .next h).1, (finish_spec .next h).2, hr⟩

/-- An instruction that edits the state and ends as a control transfer outside a delay slot. -/
theorem transfers_of {i : Instr} {parts : List Part} {s u : State} {result : State → Prop} {pc : Word} {d : Delay}
    {out : Out} (hd : s.cpu.delay = .none) (he : exec i s = finish out u) (h : Edits parts s u)
    (hp : (sequenceOut out u.count).cpu.pc = pc) (hq : (sequenceOut out u.count).cpu.delay = d)
    (hr : result (sequence out u.count)) : Transfers i s pc d parts result := by
  have e : sequence out u.count = sequenceOut out u.count := sequence_none _ _ (by simp [h.delay, hd])
  exact ⟨_, he, by rw [e, hp], by rw [e, hq], (finish_spec out h).1, (finish_spec out h).2, hr⟩

/-! ### Trap entry -/

/-- The state before the exception registers are written, and the registers written. -/
theorem trapEntry_spec (code : BitVec 5) (ce : BitVec 2) (s : State) :
    TrapTaken code ce s (trapEntry code ce s) ∧ OnlyChanges trapParts s (trapEntry code ce s) ∧
      (trapEntry code ce s).ctl = s.ctl := by
  have e1 : regCause ≠ regEPC := by decide
  have e2 : regStatus ≠ regEPC := by decide
  have e3 : regStatus ≠ regCause := by decide
  refine ⟨?_, ?_, ?_⟩
  · constructor
    · simp [trapEntry, Config.excVector]
    · simp [trapEntry]
    · unfold trapEntry State.epc State.status State.cause State.restartAddress
      split <;> simp [e1.symm, e2.symm]
    · unfold trapEntry State.status State.cause
      split <;> simp [e2, e3, e3.symm]
    · simp [trapEntry, State.status, State.cause, e3.symm]
    · simp [trapEntry, State.status, State.cause, e3.symm]
    · intro n h1 h2 h3
      have k1 : ¬ (2 ≤ n ∧ n < 2 + 5) := by omega
      have k2 : ¬ (28 ≤ n ∧ n < 28 + 2) := by omega
      unfold trapEntry State.status State.cause
      split <;> simp [e3.symm, putCE, putExcCode, bitAt_putField, k1, k2, putBD, bitAt_putBit, h3]
    · simp [trapEntry, State.status, State.cause]
    · intro n hn
      unfold trapEntry State.status State.cause
      split <;> simp [e2, e3, putEXL, bitAt_putBit, hn]
  · unfold trapEntry trapParts
    split
    · constructor <;> intros <;> simp_all
    · constructor <;> intros <;> simp_all
  · unfold trapEntry; split <;> simp

/-- An instruction that edits the state and raises. -/
theorem raiseWith_spec {parts : List Part} {s u : State} (e : Exception) (ce : BitVec 2) (h : Edits parts s u)
    (hc : ∀ r, .cp0 r ∉ parts) :
    ∃ t, raiseWith e ce u = .next t ∧ TrapTaken e.code ce s t ∧ Counted s t ∧
      OnlyChanges (parts ++ trapParts) s t ∧ t.fcsr = u.fcsr := by
  obtain ⟨ht, ho, hctl⟩ := trapEntry_spec e.code ce u.count
  have hcp : ∀ r, u.count.cp0 r = s.cp0 r := fun r => by simpa using h.only.cp0 r (hc r)
  refine ⟨_, rfl, ?_, ?_, ?_, ?_⟩
  · have hs : u.count.status = s.status := hcp _
    have hca : u.count.cause = s.cause := hcp _
    have hep : u.count.epc = s.epc := hcp _
    have hp : u.count.cpu.pc = s.cpu.pc := h.pc
    have hd : u.count.cpu.delay = s.cpu.delay := h.delay
    constructor
    · exact ht.pc
    · exact ht.delay
    · rw [ht.epc, hs, hep, hp, hd]
    · rw [ht.bd, hs, hca, hd]
    · exact ht.excCode
    · exact ht.ce
    · intro n a b c; rw [ht.causeRest n a b c, hca]
    · exact ht.exl
    · intro n a; rw [ht.statusRest n a, hs]
  · unfold Counted; rw [hctl]; simp [h.cycles, h.instructions]
  · have hq : OnlyChanges [] u u.count := by constructor <;> intros <;> simp
    exact ((h.only.trans hq).trans ho).mono (by simp)
  · exact ho.fcr _ (by simp [trapParts])

/-- An instruction that only raises. -/
theorem traps_of {i : Instr} {s : State} {e : Exception} {ce : BitVec 2} {code : BitVec 5}
    (he : exec i s = raiseWith e ce s) (hc : e.code = code) : Traps i s code ce := by
  obtain ⟨t, h1, h2, h3, h4, _⟩ := raiseWith_spec e ce (Edits.refl [] s) (by simp)
  exact ⟨t, he.trans h1, hc ▸ h2, h3, h4⟩

/-! ### One general register -/

theorem writesX_of {i : Instr} {s : State} {d : Reg} {v : Word} (he : exec i s = writeGpr d v s) :
    WritesX i s d v :=
  completes_of he (edits_setX s d v) (by by_cases h : d = 0 <;> simp [h])

/-! ### Loads and stores -/

theorem loadsX_of {i : Instr} {s : State} {d : Reg} {va : Word} {w n : Nat} {f : BitVec w → Word} (hw : w = 8 * n)
    (he : exec i s = loadInto d va w n f s) : LoadsX i s d va w n [] f (fun _ => True) := by
  refine ⟨s.memValue w n va, s.holds_memValue w n hw va, ?_⟩
  refine completes_of he (((edits_countRead s).trans (edits_setX _ d _)).mono (by simp)) ⟨?_, ?_, trivial⟩
  · by_cases h : d = 0 <;> simp [h]
  · simp

theorem storesAt_of {w : Nat} {i : Instr} {s : State} {va : Word} {n : Nat} {v : BitVec w} {bs : List Byte}
    (hm : MemoryOk s) (he : exec i s = storeBytes va bs s) (hl : bs.length = n)
    (hb : ∀ k (hk : k < bs.length), bs[k] = v.extractLsb' (8 * (n - 1 - k)) 8) :
    StoresAt i s va n v [] (fun _ => True) := by
  refine completes_of he (edits_memWrite s va bs) ⟨?_, ?_, trivial⟩
  · have := MemSys.stored_writeBytes (m := s.mem) hm va n v bs hl hb
    have e : (sequence .next (s.memWrite va bs).count).mem =
        { s.mem.writeBytes va bs with memWrites := s.mem.memWrites + 1#64 } := by simp [State.memWrite_mem]
    rw [e]
    exact ⟨fun k hk a x y z => this.hit k hk a x y z, fun a x => this.miss a x, fun a x => this.readOnly a x⟩
  · simp [State.memWrite_mem]

/-! ### The FPU -/

theorem bitAt_fcsr_cause (s : State) (c : FpCause) (n : Nat) :
    bitAt (s.setFpCause c).fcsr n = if 12 ≤ n ∧ n ≤ 17 then c.toBits.getLsbD (n - 12) else bitAt s.fcsr n := by
  have : (s.setFpCause c).fcsr = putFcsrCause s.fcsr c.toBits := by
    simp [State.setFpCause, State.setFcsr, State.fcsr]
  rw [this, bitAt_putFcsrCause]

theorem bitAt_fcsr_flags (s : State) (c : FpCause) (n : Nat) :
    bitAt ((s.setFpCause c).raiseFlags c).fcsr n =
      if 12 ≤ n ∧ n ≤ 17 then c.toBits.getLsbD (n - 12)
      else if 2 ≤ n ∧ n ≤ 6 then (bitAt s.fcsr n || c.ieee.getLsbD (n - 2))
      else bitAt s.fcsr n := by
  have e1 : (s.setFpCause c).fcsr = putFcsrCause s.fcsr c.toBits := by
    simp [State.setFpCause, State.setFcsr, State.fcsr]
  have e2 : ((s.setFpCause c).raiseFlags c).fcsr =
      putFcsrFlags (putFcsrCause s.fcsr c.toBits) (fcsrFlags s.fcsr ||| c.ieee) := by
    rw [State.raiseFlags, e1]; simp [State.setFcsr, State.fcsr, fcsrFlags_putFcsrCause]
  rw [e2, bitAt_putFcsrFlags, bitAt_putFcsrCause]
  by_cases h1 : 12 ≤ n ∧ n ≤ 17
  · rw [if_pos h1, if_pos h1, if_neg (by omega)]
  · rw [if_neg h1, if_neg h1]
    by_cases h2 : 2 ≤ n ∧ n ≤ 6
    · rw [if_pos h2, if_pos h2, BitVec.getLsbD_or, fcsrFlags, getLsbD_fieldAt,
        show 2 + (n - 2) = n by omega, decide_eq_true (show n - 2 < 5 by omega), Bool.true_and]
    · rw [if_neg h2, if_neg h2]

theorem edits_setFpCause (s : State) (c : FpCause) : Edits [.fcr regFCSR] s (s.setFpCause c) :=
  edits_setFcr s regFCSR _

theorem edits_raiseFlags (s : State) (c : FpCause) : Edits [.fcr regFCSR] s (s.raiseFlags c) :=
  edits_setFcr s regFCSR _

/-- `CheckCU1()` raises CpU with `ce = 1` (46_fpu_move.md R344). -/
theorem traps_of_checkCU1 {i : Instr} {s : State} {body : Result} (he : exec i s = checkCU1 s body)
    (h : statusCU1 s.status = false) : Traps i s 11#5 1#2 :=
  traps_of (e := .coprocessorUnusable) (he.trans (by simp [checkCU1, h])) rfl

theorem exec_of_checkCU1 {i : Instr} {s : State} {body : Result} (he : exec i s = checkCU1 s body)
    (h : statusCU1 s.status = true) : exec i s = body := he.trans (by simp [checkCU1, h])

/-- `FPFinish` with an enabled exception signalled (47_fpu_arith.md R366). -/
theorem fpFinish_traps {c : FpCause} {write : State → State} {s : State}
    (h : c.traps (fcsrEnables s.fcsr) = true) :
    ∃ t, fpFinish c write s = .next t ∧ TrapTaken 15#5 0#2 s t ∧ Counted s t ∧
      OnlyChanges (.fcr regFCSR :: trapParts) s t ∧
      (∀ n, bitAt t.fcsr n = if 12 ≤ n ∧ n ≤ 17 then c.toBits.getLsbD (n - 12) else bitAt s.fcsr n) := by
  obtain ⟨t, h1, h2, h3, h4, h5⟩ := raiseWith_spec .floatingPoint 0#2 (edits_setFpCause s c) (by simp)
  refine ⟨t, ?_, h2, h3, h4.mono (by simp), fun n => ?_⟩
  · rw [← h1]; simp [fpFinish, h, raise]
  · rw [h5, bitAt_fcsr_cause]

theorem fpComputes_of {i : Instr} {s : State} {c : FpCause} {fd : Reg} {v : DWord} {write : State → State}
    (he : exec i s = checkCU1 s (fpFinish c write s)) (hw : ∀ t, t.fpr fd = s.fpr fd → write t = t.setFpr fd v) :
    FpComputes i s c fd v := by
  refine ⟨traps_of_checkCU1 he, fun h1 h2 => ?_, fun h1 h2 => ?_⟩
  · obtain ⟨t, a, b⟩ := fpFinish_traps (write := write) h2
    exact ⟨t, (exec_of_checkCU1 he h1).trans a, b⟩
  · have hk : ((s.setFpCause c).raiseFlags c).fpr fd = s.fpr fd := by
      simp [State.setFpCause, State.raiseFlags, State.setFcsr]
    refine completes_of (u := ((s.setFpCause c).raiseFlags c).setFpr fd v)
      ((exec_of_checkCU1 he h1).trans ?_)
      ((((edits_setFpCause s c).trans (edits_raiseFlags _ c)).trans (edits_setFpr _ fd v)).mono (by simp)) ?_
    · simp only [fpFinish, h2, Bool.false_eq_true, if_false, hw _ hk]
    · refine ⟨by simp, fun n => ?_⟩
      have : (sequence .next (((s.setFpCause c).raiseFlags c).setFpr fd v).count).fcsr =
          ((s.setFpCause c).raiseFlags c).fcsr := by simp [State.fcsr]
      rw [this, bitAt_fcsr_flags]

theorem fpCompares_of {i : Instr} {s : State} {c : FpCause} {b : Bool}
    (he : exec i s = checkCU1 s (fpFinish c (fun t => t.setCond b) s)) : FpCompares i s c b := by
  refine ⟨traps_of_checkCU1 he, fun h1 h2 => ?_, fun h1 h2 => ?_⟩
  · obtain ⟨t, a, b⟩ := fpFinish_traps (write := fun t => t.setCond b) h2
    exact ⟨t, (exec_of_checkCU1 he h1).trans a, b⟩
  · refine completes_of (u := ((s.setFpCause c).raiseFlags c).setCond b)
      ((exec_of_checkCU1 he h1).trans ?_)
      ((((edits_setFpCause s c).trans (edits_raiseFlags _ c)).trans (edits_setFcr _ regFCSR _)).mono (by simp)) ?_
    · simp only [fpFinish, h2, Bool.false_eq_true, if_false]
    · intro n
      have : (sequence .next (((s.setFpCause c).raiseFlags c).setCond b).count).fcsr =
          putFcsrC ((s.setFpCause c).raiseFlags c).fcsr b := by
        simp [State.fcsr, State.setCond, State.setFcsr]
      rw [this, bitAt_putFcsrC, bitAt_fcsr_flags]
      by_cases h : n = 23
      · subst h; simp
      · simp [h]

end Sys2Proof.Machine
end

