-- ==== Sys2Proof/Laws/Exec.lean ====
section
/-! SUPPORT. What the cycle of an instruction can do, said once for all instructions. -/

namespace Sys2Proof.Machine

/-- What an instruction can do to memory: nothing, one counted read, or one counted write. -/
inductive MemEffect (m : MemSys) : MemSys → Prop where
  | none : MemEffect m m
  | read : MemEffect m { m with memReads := m.memReads + 1#64 }
  | write (va : Word) (bs : List Byte) :
      MemEffect m { m.writeBytes va bs with memWrites := m.memWrites + 1#64 }

/-- What an instruction's own writes can do: registers, HI, LO, `llbit` and one memory access; never `pc`, `delay`,
the controller, the host's side, or the cell of `x[0]`. -/
structure Effect (s u : State) : Prop where
  x0 : u.cpu.gpr[0] = s.cpu.gpr[0]
  pc : u.cpu.pc = s.cpu.pc
  delay : u.cpu.delay = s.cpu.delay
  mem : MemEffect s.mem u.mem
  ctl : u.ctl = s.ctl
  agenda : u.agenda = s.agenda
  runCall : u.runCall = s.runCall
  replies : u.replies = s.replies

/-- The effect leaves memory alone. -/
structure Quiet (s u : State) : Prop extends Effect s u where
  memEq : u.mem = s.mem

theorem Quiet.refl (s : State) : Quiet s s := ⟨⟨rfl, rfl, rfl, .none, rfl, rfl, rfl, rfl⟩, rfl⟩

theorem Quiet.trans {s t u : State} (h : Quiet s t) (k : Quiet t u) : Quiet s u :=
  ⟨⟨k.x0.trans h.x0, k.pc.trans h.pc, k.delay.trans h.delay, by rw [k.memEq, h.memEq]; exact .none,
    k.ctl.trans h.ctl, k.agenda.trans h.agenda, k.runCall.trans h.runCall, k.replies.trans h.replies⟩, k.memEq.trans h.memEq⟩

/-- Writes of registers before or after the access of an instruction. -/
theorem Effect.quiet {s t u : State} (h : Effect s t) (k : Quiet t u) : Effect s u :=
  ⟨k.x0.trans h.x0, k.pc.trans h.pc, k.delay.trans h.delay, by rw [k.memEq]; exact h.mem,
    k.ctl.trans h.ctl, k.agenda.trans h.agenda, k.runCall.trans h.runCall, k.replies.trans h.replies⟩

theorem quiet_setX (s : State) (r : Reg) (v : Word) : Quiet s (s.setX r v) := by
  unfold State.setX
  split
  · exact .refl s
  · rename_i h
    have : r.val ≠ 0 := fun k => h (Fin.ext k)
    refine ⟨⟨?_, rfl, rfl, .none, rfl, rfl, rfl, rfl⟩, rfl⟩
    simp [this]

theorem quiet_setHi (s : State) (v : Word) : Quiet s (s.setHi v) := ⟨⟨rfl, rfl, rfl, .none, rfl, rfl, rfl, rfl⟩, rfl⟩
theorem quiet_setLo (s : State) (v : Word) : Quiet s (s.setLo v) := ⟨⟨rfl, rfl, rfl, .none, rfl, rfl, rfl, rfl⟩, rfl⟩
theorem quiet_setLL (s : State) (b : Bool) : Quiet s (s.setLL b) := ⟨⟨rfl, rfl, rfl, .none, rfl, rfl, rfl, rfl⟩, rfl⟩
theorem quiet_setCp0 (s : State) (r : Reg) (v : Word) : Quiet s (s.setCp0 r v) :=
  ⟨⟨rfl, rfl, rfl, .none, rfl, rfl, rfl, rfl⟩, rfl⟩
theorem quiet_setFpr (s : State) (r : Reg) (v : DWord) : Quiet s (s.setFpr r v) :=
  ⟨⟨rfl, rfl, rfl, .none, rfl, rfl, rfl, rfl⟩, rfl⟩
theorem quiet_setFcr (s : State) (r : Reg) (v : Word) : Quiet s (s.setFcr r v) :=
  ⟨⟨rfl, rfl, rfl, .none, rfl, rfl, rfl, rfl⟩, rfl⟩
theorem quiet_setFpBits (s : State) (f : Format) (r : Reg) (b : Nat) : Quiet s (s.setFpBits f r b) := by
  cases f <;> exact quiet_setFpr ..
theorem effect_countRead (s : State) : Effect s s.countRead := ⟨rfl, rfl, rfl, .read, rfl, rfl, rfl, rfl⟩
theorem effect_memWrite (s : State) (va : Word) (bs : List Byte) : Effect s (s.memWrite va bs) :=
  ⟨rfl, rfl, rfl, .write va bs, rfl, rfl, rfl, rfl⟩

/-- The class of R142 as a test. -/
def isControl (i : Instr) : Bool :=
  match i with
  | .j _ => true
  | .jal _ => true
  | .jr _ => true
  | .jalr _ _ => true
  | .beq _ _ _ => true
  | .bne _ _ _ => true
  | .blez _ _ => true
  | .bgtz _ _ => true
  | .bltz _ _ => true
  | .bgez _ _ => true
  | .bltzal _ _ => true
  | .bgezal _ _ => true
  | .beql _ _ _ => true
  | .bnel _ _ _ => true
  | .blezl _ _ => true
  | .bgtzl _ _ => true
  | .bltzl _ _ => true
  | .bgezl _ _ => true
  | .bltzall _ _ => true
  | .bgezall _ _ => true
  | .bc1f _ => true
  | .bc1t _ => true
  | .bc1fl _ => true
  | .bc1tl _ => true
  | .eret => true
  | _ => false

theorem not_control {i : Instr} (h : isControl i = false) : ¬ ControlTransfer i := by
  intro k; cases k <;> cases h

theorem no_control {i : Instr} {P : Prop} (h : isControl i = false) (k : ControlTransfer i) : P :=
  absurd k (not_control h)

/-- The outcomes of a jump or branch that raised nothing (43_branch.md). -/
inductive Branching : Out → Prop where
  | taken (target : Word) : Branching (.taken target)
  | notTaken : Branching .notTaken
  | annul : Branching .annul

theorem branching_if (c : Bool) (target : Word) : Branching (if c then .taken target else .notTaken) := by
  cases c <;> constructor

theorem branching_likely (c : Bool) (target : Word) : Branching (if c then .taken target else .annul) := by
  cases c <;> constructor

/-- How the cycle of an instruction ends. -/
inductive Ends (i : Instr) (s : State) : Result → Prop where
  /-- It completes with `Next`. -/
  | completes (u : State) (h : Effect s u) (hi : ¬ ControlTransfer i) : Ends i s (complete u)
  /-- It raises, having written nothing, or, for FPE, at most FCSR. -/
  | raises (e : Exception) (ce : BitVec 2) (u : State) (h : Quiet s u)
      (hu : u = s ∨ (e = .floatingPoint ∧ Edits [.fcr regFCSR] s u))
      (hd : ControlTransfer i → s.cpu.delay = .none) : Ends i s (raiseWith e ce u)
  /-- It transfers control, outside a delay slot. -/
  | transfers (out : Out) (u : State) (h : Quiet s u) (hi : ControlTransfer i) (hd : s.cpu.delay = .none)
      (ho : Branching out ∨ i = .eret) : Ends i s (finish out u)
  /-- It is a control transfer in a delay slot. -/
  | refuses (hi : ControlTransfer i) (hd : s.cpu.delay ≠ .none) :
      Ends i s (.refused .controlTransferInDelaySlot)

/-- The exception of a cycle is precise (40_controller.md R151). -/
theorem raiseWith_precise {s u : State} (e : Exception) (ce : BitVec 2)
    (hu : u = s ∨ (e = .floatingPoint ∧ Edits [.fcr regFCSR] s u)) :
    ∃ t, raiseWith e ce u = .next t ∧ TrapsPrecisely s t := by
  rcases hu with rfl | ⟨rfl, hu⟩
  · obtain ⟨t, h1, h2, h3, h4, -⟩ := raiseWith_spec e ce (Edits.refl [] u) (by simp)
    exact ⟨t, h1, _, _, h2, h3, fun _ => h4.mono (fun _ => List.mem_cons_of_mem _), fun _ => h4⟩
  · obtain ⟨t, h1, h2, h3, h4, -⟩ := raiseWith_spec .floatingPoint ce hu (by simp)
    exact ⟨t, h1, _, _, h2, h3, fun _ => h4, fun h => absurd rfl h⟩

/-- After a jump or branch outside a delay slot: a slot is pending, or a not-taken branch-likely skipped it
(40_controller.md R147 to R149). -/
theorem sequence_branching {out : Out} (ho : Branching out) {s : State} (hd : s.cpu.delay = .none) :
    (sequence out s).cpu.delay ≠ .none ∨ (sequence out s).cpu.pc = s.cpu.pc + 8#32 := by
  rw [sequence_none out s hd]
  cases ho <;> simp [sequenceOut]

section
variable {i : Instr} {s : State}

theorem ends_raise (e : Exception) (ce : BitVec 2) (hi : ¬ ControlTransfer i) : Ends i s (raiseWith e ce s) :=
  .raises e ce s (.refl s) (.inl rfl) (fun h => absurd h hi)

theorem ends_writeGpr {u : State} (d : Reg) (v : Word) (h : Effect s u) (hi : ¬ ControlTransfer i) :
    Ends i s (writeGpr d v u) := .completes _ (h.quiet (quiet_setX u d v)) hi

theorem ends_writeChecked (d : Reg) (v : Int) (hi : ¬ ControlTransfer i) : Ends i s (writeChecked d v s) := by
  unfold writeChecked
  split
  · exact ends_raise _ _ hi
  · exact ends_writeGpr _ _ (Quiet.refl s).toEffect hi

theorem ends_writeHiLo (a b : Word) (hi : ¬ ControlTransfer i) : Ends i s (writeHiLo a b s) :=
  .completes _ ((quiet_setHi s a).trans (quiet_setLo _ b)).toEffect hi

theorem ends_loadInto (rt : Reg) (va : Word) (w n : Nat) (f : BitVec w → Word) (hi : ¬ ControlTransfer i) :
    Ends i s (loadInto rt va w n f s) := ends_writeGpr _ _ (effect_countRead s) hi

theorem ends_storeBytes (va : Word) (bs : List Byte) (hi : ¬ ControlTransfer i) : Ends i s (storeBytes va bs s) :=
  .completes _ (effect_memWrite s va bs) hi

theorem ends_trapIf (c : Bool) (hi : ¬ ControlTransfer i) : Ends i s (trapIf c s) := by
  unfold trapIf
  split
  · exact ends_raise _ _ hi
  · exact .completes _ (Quiet.refl s).toEffect hi

theorem ends_controlTransfer {body : Result} (hi : ControlTransfer i) (h : s.cpu.delay = .none → Ends i s body) :
    Ends i s (controlTransfer s body) := by
  unfold controlTransfer
  split
  · rename_i hd; exact h hd
  · rename_i hd; exact .refuses hi hd

theorem ends_checkCU1 {body : Result} (hd : ControlTransfer i → s.cpu.delay = .none) (h : Ends i s body) :
    Ends i s (checkCU1 s body) := by
  unfold checkCU1
  split
  · exact h
  · exact .raises _ _ s (.refl s) (.inl rfl) hd

theorem ends_fpFinish (c : FpCause) {write : State → State} (hw : ∀ t, Quiet t (write t)) (hi : ¬ ControlTransfer i) :
    Ends i s (fpFinish c write s) := by
  unfold fpFinish
  split
  · exact .raises _ _ _ (quiet_setFcr ..) (.inr ⟨rfl, edits_setFpCause s c⟩) (fun h => absurd h hi)
  · exact .completes _ (((quiet_setFcr ..).trans (quiet_setFcr ..)).trans (hw _)).toEffect hi

theorem ends_fpWrite (f : Format) (r : FpResult) (fd : Reg) (hi : ¬ ControlTransfer i) :
    Ends i s (fpWrite f r fd s) := ends_fpFinish _ (fun t => quiet_setFpBits t f fd _) hi

theorem ends_transfer (out : Out) {u : State} (h : Quiet s u) (hi : ControlTransfer i)
    (ho : Branching out ∨ i = .eret) : Ends i s (controlTransfer s (finish out u)) :=
  ends_controlTransfer hi (fun hd => .transfers out u h hi hd ho)

theorem ends_branchTo (target : Word) {u : State} (h : Quiet s u) (hi : ControlTransfer i) :
    Ends i s (controlTransfer s (branchTo target u)) := ends_transfer _ h hi (.inl (.taken target))

theorem ends_branchIf (c : Bool) (target : Word) {u : State} (h : Quiet s u) (hi : ControlTransfer i) :
    Ends i s (controlTransfer s (branchIf c target u)) := ends_transfer _ h hi (.inl (branching_if c target))

theorem ends_branchLikelyIf (c : Bool) (target : Word) {u : State} (h : Quiet s u) (hi : ControlTransfer i) :
    Ends i s (controlTransfer s (branchLikelyIf c target u)) :=
  ends_transfer _ h hi (.inl (branching_likely c target))

theorem ends_fpTransfer {out : Out} (ho : Branching out) (hi : ControlTransfer i) :
    Ends i s (controlTransfer s (checkCU1 s (finish out s))) :=
  ends_controlTransfer hi (fun hd => ends_checkCU1 (fun _ => hd) (.transfers out s (.refl s) hi hd (.inl ho)))

end

theorem ends_sc (rt base : Reg) (offset : BitVec 16) (s : State) :
    Ends (.sc rt base offset) s (execSc rt base offset s) := by
  unfold execSc
  split
  · exact ends_writeGpr _ _ ((effect_memWrite s _ _).quiet (quiet_setLL ..)) (not_control rfl)
  · exact ends_writeGpr _ _ (quiet_setLL s false).toEffect (not_control rfl)

theorem ends_ll (rt base : Reg) (offset : BitVec 16) (s : State) :
    Ends (.ll rt base offset) s (execLl rt base offset s) :=
  ends_writeGpr _ _ ⟨rfl, rfl, rfl, .read, rfl, rfl, rfl, rfl⟩ (not_control rfl)

theorem ends_ctc1 (rt fs : Reg) (s : State) : Ends (.ctc1 rt fs) s (execCtc1 rt fs s) := by
  refine ends_checkCU1 (no_control rfl) ?_
  dsimp only
  split
  · rename_i h
    exact .raises _ _ _ (quiet_setFcr ..) (.inr ⟨rfl, h.1 ▸ edits_setFcr ..⟩) (no_control rfl)
  · exact .completes _ (quiet_setFcr ..).toEffect (not_control rfl)

theorem ends_lwl (rt base : Reg) (offset : BitVec 16) (s : State) :
    Ends (.lwl rt base offset) s (execLwl rt base offset s) := by
  unfold execLwl; exact ends_loadInto _ _ 32 4 _ (not_control rfl)

theorem ends_lwr (rt base : Reg) (offset : BitVec 16) (s : State) :
    Ends (.lwr rt base offset) s (execLwr rt base offset s) := by
  unfold execLwr; exact ends_loadInto _ _ 32 4 _ (not_control rfl)

theorem ends_eret (s : State) : Ends .eret s (execEret s) := by
  refine ends_transfer _ ?_ .eret (.inr rfl)
  unfold exceptionReturn
  split <;> exact (quiet_setCp0 ..).trans (quiet_setLL ..)

/-- Every instruction, in every state. -/
theorem exec_ends (i : Instr) (s : State) : Ends i s (exec i s) :=
  match i with
  | .add _ _ _ => ends_writeChecked _ _ (not_control rfl)
  | .addu _ _ _ => ends_writeGpr _ _ (Quiet.refl s).toEffect (not_control rfl)
  | .sub _ _ _ => ends_writeChecked _ _ (not_control rfl)
  | .subu _ _ _ => ends_writeGpr _ _ (Quiet.refl s).toEffect (not_control rfl)
  | .and _ _ _ => ends_writeGpr _ _ (Quiet.refl s).toEffect (not_control rfl)
  | .or _ _ _ => ends_writeGpr _ _ (Quiet.refl s).toEffect (not_control rfl)
  | .xor _ _ _ => ends_writeGpr _ _ (Quiet.refl s).toEffect (not_control rfl)
  | .nor _ _ _ => ends_writeGpr _ _ (Quiet.refl s).toEffect (not_control rfl)
  | .slt _ _ _ => ends_writeGpr _ _ (Quiet.refl s).toEffect (not_control rfl)
  | .sltu _ _ _ => ends_writeGpr _ _ (Quiet.refl s).toEffect (not_control rfl)
  | .sll _ _ _ => ends_writeGpr _ _ (Quiet.refl s).toEffect (not_control rfl)
  | .srl _ _ _ => ends_writeGpr _ _ (Quiet.refl s).toEffect (not_control rfl)
  | .sra _ _ _ => ends_writeGpr _ _ (Quiet.refl s).toEffect (not_control rfl)
  | .sllv _ _ _ => ends_writeGpr _ _ (Quiet.refl s).toEffect (not_control rfl)
  | .srlv _ _ _ => ends_writeGpr _ _ (Quiet.refl s).toEffect (not_control rfl)
  | .srav _ _ _ => ends_writeGpr _ _ (Quiet.refl s).toEffect (not_control rfl)
  | .addi _ _ _ => ends_writeChecked _ _ (not_control rfl)
  | .addiu _ _ _ => ends_writeGpr _ _ (Quiet.refl s).toEffect (not_control rfl)
  | .slti _ _ _ => ends_writeGpr _ _ (Quiet.refl s).toEffect (not_control rfl)
  | .sltiu _ _ _ => ends_writeGpr _ _ (Quiet.refl s).toEffect (not_control rfl)
  | .andi _ _ _ => ends_writeGpr _ _ (Quiet.refl s).toEffect (not_control rfl)
  | .ori _ _ _ => ends_writeGpr _ _ (Quiet.refl s).toEffect (not_control rfl)
  | .xori _ _ _ => ends_writeGpr _ _ (Quiet.refl s).toEffect (not_control rfl)
  | .lui _ _ => ends_writeGpr _ _ (Quiet.refl s).toEffect (not_control rfl)
  | .mult _ _ => ends_writeHiLo _ _ (not_control rfl)
  | .multu _ _ => ends_writeHiLo _ _ (not_control rfl)
  | .div _ _ => ends_writeHiLo _ _ (not_control rfl)
  | .divu _ _ => ends_writeHiLo _ _ (not_control rfl)
  | .mfhi _ => ends_writeGpr _ _ (Quiet.refl s).toEffect (not_control rfl)
  | .mthi _ => .completes _ (quiet_setHi ..).toEffect (not_control rfl)
  | .mflo _ => ends_writeGpr _ _ (Quiet.refl s).toEffect (not_control rfl)
  | .mtlo _ => .completes _ (quiet_setLo ..).toEffect (not_control rfl)
  | .j _ => ends_branchTo _ (.refl s) (by constructor)
  | .jal _ => ends_branchTo _ (quiet_setX ..) (by constructor)
  | .jr _ => ends_branchTo _ (.refl s) (by constructor)
  | .jalr _ _ => ends_branchTo _ (quiet_setX ..) (by constructor)
  | .beq _ _ _ => ends_branchIf _ _ (.refl s) (by constructor)
  | .bne _ _ _ => ends_branchIf _ _ (.refl s) (by constructor)
  | .blez _ _ => ends_branchIf _ _ (.refl s) (by constructor)
  | .bgtz _ _ => ends_branchIf _ _ (.refl s) (by constructor)
  | .beql _ _ _ => ends_branchLikelyIf _ _ (.refl s) (by constructor)
  | .bnel _ _ _ => ends_branchLikelyIf _ _ (.refl s) (by constructor)
  | .blezl _ _ => ends_branchLikelyIf _ _ (.refl s) (by constructor)
  | .bgtzl _ _ => ends_branchLikelyIf _ _ (.refl s) (by constructor)
  | .bltz _ _ => ends_branchIf _ _ (.refl s) (by constructor)
  | .bgez _ _ => ends_branchIf _ _ (.refl s) (by constructor)
  | .bltzal _ _ => ends_branchIf _ _ (quiet_setX ..) (by constructor)
  | .bgezal _ _ => ends_branchIf _ _ (quiet_setX ..) (by constructor)
  | .bltzl _ _ => ends_branchLikelyIf _ _ (.refl s) (by constructor)
  | .bgezl _ _ => ends_branchLikelyIf _ _ (.refl s) (by constructor)
  | .bltzall _ _ => ends_branchLikelyIf _ _ (quiet_setX ..) (by constructor)
  | .bgezall _ _ => ends_branchLikelyIf _ _ (quiet_setX ..) (by constructor)
  | .lb _ _ _ => ends_loadInto _ _ _ _ _ (not_control rfl)
  | .lbu _ _ _ => ends_loadInto _ _ _ _ _ (not_control rfl)
  | .lh _ _ _ => ends_loadInto _ _ _ _ _ (not_control rfl)
  | .lhu _ _ _ => ends_loadInto _ _ _ _ _ (not_control rfl)
  | .lw _ _ _ => ends_loadInto _ _ _ _ _ (not_control rfl)
  | .sb _ _ _ => ends_storeBytes _ _ (not_control rfl)
  | .sh _ _ _ => ends_storeBytes _ _ (not_control rfl)
  | .sw _ _ _ => ends_storeBytes _ _ (not_control rfl)
  | .swl _ _ _ => ends_storeBytes _ _ (not_control rfl)
  | .swr _ _ _ => ends_storeBytes _ _ (not_control rfl)
  | .lwl rt base offset => ends_lwl rt base offset s
  | .lwr rt base offset => ends_lwr rt base offset s
  | .ll rt base offset => ends_ll rt base offset s
  | .sc rt base offset => ends_sc rt base offset s
  | .sync _ => .completes _ (Quiet.refl s).toEffect (not_control rfl)
  | .cache _ _ _ => .completes _ (Quiet.refl s).toEffect (not_control rfl)
  | .syscall _ => ends_raise _ _ (not_control rfl)
  | .brk _ => ends_raise _ _ (not_control rfl)
  | .tge _ _ _ => ends_trapIf _ (not_control rfl)
  | .tgeu _ _ _ => ends_trapIf _ (not_control rfl)
  | .tlt _ _ _ => ends_trapIf _ (not_control rfl)
  | .tltu _ _ _ => ends_trapIf _ (not_control rfl)
  | .teq _ _ _ => ends_trapIf _ (not_control rfl)
  | .tne _ _ _ => ends_trapIf _ (not_control rfl)
  | .mfc0 _ _ => ends_writeGpr _ _ (Quiet.refl s).toEffect (not_control rfl)
  | .mtc0 _ _ => .completes _ (quiet_setCp0 ..).toEffect (not_control rfl)
  | .eret => ends_eret s
  | .tgei _ _ => ends_trapIf _ (not_control rfl)
  | .tgeiu _ _ => ends_trapIf _ (not_control rfl)
  | .tlti _ _ => ends_trapIf _ (not_control rfl)
  | .tltiu _ _ => ends_trapIf _ (not_control rfl)
  | .teqi _ _ => ends_trapIf _ (not_control rfl)
  | .tnei _ _ => ends_trapIf _ (not_control rfl)
  | .tlbr => ends_raise .reservedInstruction 0#2 (not_control rfl)
  | .tlbwi => ends_raise .reservedInstruction 0#2 (not_control rfl)
  | .tlbwr => ends_raise .reservedInstruction 0#2 (not_control rfl)
  | .tlbp => ends_raise .reservedInstruction 0#2 (not_control rfl)
  | .daddi _ _ _ => ends_raise .reservedInstruction 0#2 (not_control rfl)
  | .daddiu _ _ _ => ends_raise .reservedInstruction 0#2 (not_control rfl)
  | .ldl _ _ _ => ends_raise .reservedInstruction 0#2 (not_control rfl)
  | .ldr _ _ _ => ends_raise .reservedInstruction 0#2 (not_control rfl)
  | .lwu _ _ _ => ends_raise .reservedInstruction 0#2 (not_control rfl)
  | .sdl _ _ _ => ends_raise .reservedInstruction 0#2 (not_control rfl)
  | .sdr _ _ _ => ends_raise .reservedInstruction 0#2 (not_control rfl)
  | .lld _ _ _ => ends_raise .reservedInstruction 0#2 (not_control rfl)
  | .ld _ _ _ => ends_raise .reservedInstruction 0#2 (not_control rfl)
  | .scd _ _ _ => ends_raise .reservedInstruction 0#2 (not_control rfl)
  | .sd _ _ _ => ends_raise .reservedInstruction 0#2 (not_control rfl)
  | .dsllv _ _ _ => ends_raise .reservedInstruction 0#2 (not_control rfl)
  | .dsrlv _ _ _ => ends_raise .reservedInstruction 0#2 (not_control rfl)
  | .dsrav _ _ _ => ends_raise .reservedInstruction 0#2 (not_control rfl)
  | .dadd _ _ _ => ends_raise .reservedInstruction 0#2 (not_control rfl)
  | .daddu _ _ _ => ends_raise .reservedInstruction 0#2 (not_control rfl)
  | .dsub _ _ _ => ends_raise .reservedInstruction 0#2 (not_control rfl)
  | .dsubu _ _ _ => ends_raise .reservedInstruction 0#2 (not_control rfl)
  | .dmult _ _ => ends_raise .reservedInstruction 0#2 (not_control rfl)
  | .dmultu _ _ => ends_raise .reservedInstruction 0#2 (not_control rfl)
  | .ddiv _ _ => ends_raise .reservedInstruction 0#2 (not_control rfl)
  | .ddivu _ _ => ends_raise .reservedInstruction 0#2 (not_control rfl)
  | .dsll _ _ _ => ends_raise .reservedInstruction 0#2 (not_control rfl)
  | .dsrl _ _ _ => ends_raise .reservedInstruction 0#2 (not_control rfl)
  | .dsra _ _ _ => ends_raise .reservedInstruction 0#2 (not_control rfl)
  | .dsll32 _ _ _ => ends_raise .reservedInstruction 0#2 (not_control rfl)
  | .dsrl32 _ _ _ => ends_raise .reservedInstruction 0#2 (not_control rfl)
  | .dsra32 _ _ _ => ends_raise .reservedInstruction 0#2 (not_control rfl)
  | .dmfc0 _ _ => ends_raise .reservedInstruction 0#2 (not_control rfl)
  | .dmtc0 _ _ => ends_raise .reservedInstruction 0#2 (not_control rfl)
  | .dmfc1 _ _ => ends_checkCU1 (no_control rfl) (ends_raise .reservedInstruction 0#2 (not_control rfl))
  | .dmtc1 _ _ => ends_checkCU1 (no_control rfl) (ends_raise .reservedInstruction 0#2 (not_control rfl))
  | .cop2 _ => ends_raise .coprocessorUnusable 2#2 (not_control rfl)
  | .lwc2 _ _ _ => ends_raise .coprocessorUnusable 2#2 (not_control rfl)
  | .ldc2 _ _ _ => ends_raise .coprocessorUnusable 2#2 (not_control rfl)
  | .swc2 _ _ _ => ends_raise .coprocessorUnusable 2#2 (not_control rfl)
  | .sdc2 _ _ _ => ends_raise .coprocessorUnusable 2#2 (not_control rfl)
  | .mfc1 _ _ => ends_checkCU1 (no_control rfl) (ends_writeGpr _ _ (Quiet.refl s).toEffect (not_control rfl))
  | .mtc1 _ _ => ends_checkCU1 (no_control rfl) (.completes _ (quiet_setFpr ..).toEffect (not_control rfl))
  | .cfc1 _ _ => ends_checkCU1 (no_control rfl) (ends_writeGpr _ _ (Quiet.refl s).toEffect (not_control rfl))
  | .ctc1 rt fs => ends_ctc1 rt fs s
  | .lwc1 _ _ _ => ends_checkCU1 (no_control rfl) (.completes _ ((effect_countRead s).quiet (quiet_setFpr ..)) (not_control rfl))
  | .swc1 _ _ _ => ends_checkCU1 (no_control rfl) (ends_storeBytes _ _ (not_control rfl))
  | .ldc1 _ _ _ => ends_checkCU1 (no_control rfl) (.completes _ ((effect_countRead s).quiet (quiet_setFpr ..)) (not_control rfl))
  | .sdc1 _ _ _ => ends_checkCU1 (no_control rfl) (ends_storeBytes _ _ (not_control rfl))
  | .bc1f _ => ends_fpTransfer (branching_if ..) (by constructor)
  | .bc1t _ => ends_fpTransfer (branching_if ..) (by constructor)
  | .bc1fl _ => ends_fpTransfer (branching_likely ..) (by constructor)
  | .bc1tl _ => ends_fpTransfer (branching_likely ..) (by constructor)
  | .addS _ _ _ => ends_checkCU1 (no_control rfl) (ends_fpWrite _ _ _ (not_control rfl))
  | .subS _ _ _ => ends_checkCU1 (no_control rfl) (ends_fpWrite _ _ _ (not_control rfl))
  | .mulS _ _ _ => ends_checkCU1 (no_control rfl) (ends_fpWrite _ _ _ (not_control rfl))
  | .divS _ _ _ => ends_checkCU1 (no_control rfl) (ends_fpWrite _ _ _ (not_control rfl))
  | .sqrtS _ _ => ends_checkCU1 (no_control rfl) (ends_fpWrite _ _ _ (not_control rfl))
  | .absS _ _ => ends_checkCU1 (no_control rfl) (ends_fpWrite _ _ _ (not_control rfl))
  | .movS _ _ => ends_checkCU1 (no_control rfl) (.completes _ (quiet_setFpr ..).toEffect (not_control rfl))
  | .negS _ _ => ends_checkCU1 (no_control rfl) (ends_fpWrite _ _ _ (not_control rfl))
  | .roundLS _ _ => ends_checkCU1 (no_control rfl) (ends_fpFinish _ (fun _ => quiet_setFpr ..) (not_control rfl))
  | .truncLS _ _ => ends_checkCU1 (no_control rfl) (ends_fpFinish _ (fun _ => quiet_setFpr ..) (not_control rfl))
  | .ceilLS _ _ => ends_checkCU1 (no_control rfl) (ends_fpFinish _ (fun _ => quiet_setFpr ..) (not_control rfl))
  | .floorLS _ _ => ends_checkCU1 (no_control rfl) (ends_fpFinish _ (fun _ => quiet_setFpr ..) (not_control rfl))
  | .roundWS _ _ => ends_checkCU1 (no_control rfl) (ends_fpFinish _ (fun _ => quiet_setFpr ..) (not_control rfl))
  | .truncWS _ _ => ends_checkCU1 (no_control rfl) (ends_fpFinish _ (fun _ => quiet_setFpr ..) (not_control rfl))
  | .ceilWS _ _ => ends_checkCU1 (no_control rfl) (ends_fpFinish _ (fun _ => quiet_setFpr ..) (not_control rfl))
  | .floorWS _ _ => ends_checkCU1 (no_control rfl) (ends_fpFinish _ (fun _ => quiet_setFpr ..) (not_control rfl))
  | .cvtWS _ _ => ends_checkCU1 (no_control rfl) (ends_fpFinish _ (fun _ => quiet_setFpr ..) (not_control rfl))
  | .cvtLS _ _ => ends_checkCU1 (no_control rfl) (ends_fpFinish _ (fun _ => quiet_setFpr ..) (not_control rfl))
  | .addD _ _ _ => ends_checkCU1 (no_control rfl) (ends_fpWrite _ _ _ (not_control rfl))
  | .subD _ _ _ => ends_checkCU1 (no_control rfl) (ends_fpWrite _ _ _ (not_control rfl))
  | .mulD _ _ _ => ends_checkCU1 (no_control rfl) (ends_fpWrite _ _ _ (not_control rfl))
  | .divD _ _ _ => ends_checkCU1 (no_control rfl) (ends_fpWrite _ _ _ (not_control rfl))
  | .sqrtD _ _ => ends_checkCU1 (no_control rfl) (ends_fpWrite _ _ _ (not_control rfl))
  | .absD _ _ => ends_checkCU1 (no_control rfl) (ends_fpWrite _ _ _ (not_control rfl))
  | .movD _ _ => ends_checkCU1 (no_control rfl) (.completes _ (quiet_setFpr ..).toEffect (not_control rfl))
  | .negD _ _ => ends_checkCU1 (no_control rfl) (ends_fpWrite _ _ _ (not_control rfl))
  | .roundLD _ _ => ends_checkCU1 (no_control rfl) (ends_fpFinish _ (fun _ => quiet_setFpr ..) (not_control rfl))
  | .truncLD _ _ => ends_checkCU1 (no_control rfl) (ends_fpFinish _ (fun _ => quiet_setFpr ..) (not_control rfl))
  | .ceilLD _ _ => ends_checkCU1 (no_control rfl) (ends_fpFinish _ (fun _ => quiet_setFpr ..) (not_control rfl))
  | .floorLD _ _ => ends_checkCU1 (no_control rfl) (ends_fpFinish _ (fun _ => quiet_setFpr ..) (not_control rfl))
  | .roundWD _ _ => ends_checkCU1 (no_control rfl) (ends_fpFinish _ (fun _ => quiet_setFpr ..) (not_control rfl))
  | .truncWD _ _ => ends_checkCU1 (no_control rfl) (ends_fpFinish _ (fun _ => quiet_setFpr ..) (not_control rfl))
  | .ceilWD _ _ => ends_checkCU1 (no_control rfl) (ends_fpFinish _ (fun _ => quiet_setFpr ..) (not_control rfl))
  | .floorWD _ _ => ends_checkCU1 (no_control rfl) (ends_fpFinish _ (fun _ => quiet_setFpr ..) (not_control rfl))
  | .cvtWD _ _ => ends_checkCU1 (no_control rfl) (ends_fpFinish _ (fun _ => quiet_setFpr ..) (not_control rfl))
  | .cvtLD _ _ => ends_checkCU1 (no_control rfl) (ends_fpFinish _ (fun _ => quiet_setFpr ..) (not_control rfl))
  | .cvtSD _ _ => ends_checkCU1 (no_control rfl) (ends_fpWrite _ _ _ (not_control rfl))
  | .cvtSW _ _ => ends_checkCU1 (no_control rfl) (ends_fpWrite _ _ _ (not_control rfl))
  | .cvtSL _ _ => ends_checkCU1 (no_control rfl) (ends_fpWrite _ _ _ (not_control rfl))
  | .cvtDS _ _ => ends_checkCU1 (no_control rfl) (ends_fpWrite _ _ _ (not_control rfl))
  | .cvtDW _ _ => ends_checkCU1 (no_control rfl) (ends_fpWrite _ _ _ (not_control rfl))
  | .cvtDL _ _ => ends_checkCU1 (no_control rfl) (ends_fpWrite _ _ _ (not_control rfl))
  | .cFS _ _ => ends_checkCU1 (no_control rfl) (ends_fpFinish _ (fun _ => quiet_setFcr ..) (not_control rfl))
  | .cUnS _ _ => ends_checkCU1 (no_control rfl) (ends_fpFinish _ (fun _ => quiet_setFcr ..) (not_control rfl))
  | .cEqS _ _ => ends_checkCU1 (no_control rfl) (ends_fpFinish _ (fun _ => quiet_setFcr ..) (not_control rfl))
  | .cUeqS _ _ => ends_checkCU1 (no_control rfl) (ends_fpFinish _ (fun _ => quiet_setFcr ..) (not_control rfl))
  | .cOltS _ _ => ends_checkCU1 (no_control rfl) (ends_fpFinish _ (fun _ => quiet_setFcr ..) (not_control rfl))
  | .cUltS _ _ => ends_checkCU1 (no_control rfl) (ends_fpFinish _ (fun _ => quiet_setFcr ..) (not_control rfl))
  | .cOleS _ _ => ends_checkCU1 (no_control rfl) (ends_fpFinish _ (fun _ => quiet_setFcr ..) (not_control rfl))
  | .cUleS _ _ => ends_checkCU1 (no_control rfl) (ends_fpFinish _ (fun _ => quiet_setFcr ..) (not_control rfl))
  | .cSfS _ _ => ends_checkCU1 (no_control rfl) (ends_fpFinish _ (fun _ => quiet_setFcr ..) (not_control rfl))
  | .cNgleS _ _ => ends_checkCU1 (no_control rfl) (ends_fpFinish _ (fun _ => quiet_setFcr ..) (not_control rfl))
  | .cSeqS _ _ => ends_checkCU1 (no_control rfl) (ends_fpFinish _ (fun _ => quiet_setFcr ..) (not_control rfl))
  | .cNglS _ _ => ends_checkCU1 (no_control rfl) (ends_fpFinish _ (fun _ => quiet_setFcr ..) (not_control rfl))
  | .cLtS _ _ => ends_checkCU1 (no_control rfl) (ends_fpFinish _ (fun _ => quiet_setFcr ..) (not_control rfl))
  | .cNgeS _ _ => ends_checkCU1 (no_control rfl) (ends_fpFinish _ (fun _ => quiet_setFcr ..) (not_control rfl))
  | .cLeS _ _ => ends_checkCU1 (no_control rfl) (ends_fpFinish _ (fun _ => quiet_setFcr ..) (not_control rfl))
  | .cNgtS _ _ => ends_checkCU1 (no_control rfl) (ends_fpFinish _ (fun _ => quiet_setFcr ..) (not_control rfl))
  | .cFD _ _ => ends_checkCU1 (no_control rfl) (ends_fpFinish _ (fun _ => quiet_setFcr ..) (not_control rfl))
  | .cUnD _ _ => ends_checkCU1 (no_control rfl) (ends_fpFinish _ (fun _ => quiet_setFcr ..) (not_control rfl))
  | .cEqD _ _ => ends_checkCU1 (no_control rfl) (ends_fpFinish _ (fun _ => quiet_setFcr ..) (not_control rfl))
  | .cUeqD _ _ => ends_checkCU1 (no_control rfl) (ends_fpFinish _ (fun _ => quiet_setFcr ..) (not_control rfl))
  | .cOltD _ _ => ends_checkCU1 (no_control rfl) (ends_fpFinish _ (fun _ => quiet_setFcr ..) (not_control rfl))
  | .cUltD _ _ => ends_checkCU1 (no_control rfl) (ends_fpFinish _ (fun _ => quiet_setFcr ..) (not_control rfl))
  | .cOleD _ _ => ends_checkCU1 (no_control rfl) (ends_fpFinish _ (fun _ => quiet_setFcr ..) (not_control rfl))
  | .cUleD _ _ => ends_checkCU1 (no_control rfl) (ends_fpFinish _ (fun _ => quiet_setFcr ..) (not_control rfl))
  | .cSfD _ _ => ends_checkCU1 (no_control rfl) (ends_fpFinish _ (fun _ => quiet_setFcr ..) (not_control rfl))
  | .cNgleD _ _ => ends_checkCU1 (no_control rfl) (ends_fpFinish _ (fun _ => quiet_setFcr ..) (not_control rfl))
  | .cSeqD _ _ => ends_checkCU1 (no_control rfl) (ends_fpFinish _ (fun _ => quiet_setFcr ..) (not_control rfl))
  | .cNglD _ _ => ends_checkCU1 (no_control rfl) (ends_fpFinish _ (fun _ => quiet_setFcr ..) (not_control rfl))
  | .cLtD _ _ => ends_checkCU1 (no_control rfl) (ends_fpFinish _ (fun _ => quiet_setFcr ..) (not_control rfl))
  | .cNgeD _ _ => ends_checkCU1 (no_control rfl) (ends_fpFinish _ (fun _ => quiet_setFcr ..) (not_control rfl))
  | .cLeD _ _ => ends_checkCU1 (no_control rfl) (ends_fpFinish _ (fun _ => quiet_setFcr ..) (not_control rfl))
  | .cNgtD _ _ => ends_checkCU1 (no_control rfl) (ends_fpFinish _ (fun _ => quiet_setFcr ..) (not_control rfl))

end Sys2Proof.Machine
end

