-- ==== Sys2Proof/Laws/Float.lean ====
section
/-! SUPPORT. The numerics of the FPU: each rounding of Machine/Float.lean is the correct rounding of the exact real
value (47_fpu_arith.md R360 to R367), each integer conversion the rounded integer, each compare the relation of the
real values. -/

namespace Sys2Proof.Machine

/-! ### Rounding a magnitude to an integer -/

/-- How a magnitude is rounded to an integer. -/
inductive Dir where
  | near | floor | ceil

/-- The direction of a mode on the magnitude of a value of this sign. -/
def Rounding.dir (rm : Rounding) (neg : Bool) : Dir :=
  match rm with
  | .nearest => .near
  | .zero => .floor
  | .up => if neg then .floor else .ceil
  | .down => if neg then .ceil else .floor

/-- `n` is `y` rounded in the direction. -/
def Dir.rounds (d : Dir) (y : ℝ) (n : ℕ) : Prop :=
  match d with
  | .near => |y - n| ≤ 1 / 2 ∧ (|y - n| = 1 / 2 → n % 2 = 0)
  | .floor => (n : ℝ) ≤ y ∧ y < n + 1
  | .ceil => (n : ℝ) - 1 < y ∧ y ≤ n

/-- The magnitude a rounding is asked for: `mant * 2 ^ exp`, plus less than one in its last place if `tail`. -/
def Magnitude (mant : ℕ) (exp : ℤ) (tail : Bool) (x : ℝ) : Prop :=
  if tail then (mant : ℝ) * 2 ^ exp < x ∧ x < (mant + 1) * 2 ^ exp else x = mant * 2 ^ exp

theorem roundShift_spec (rm : Rounding) (neg : Bool) (mant shift : ℕ) (tail : Bool) (y : ℝ)
    (hs : tail = true → 0 < shift)
    (hy : if tail then (mant : ℝ) < y * 2 ^ shift ∧ y * 2 ^ shift < mant + 1 else y * 2 ^ shift = mant) :
    (rm.dir neg).rounds y (roundShift rm neg mant shift tail).1 ∧
      ((roundShift rm neg mant shift tail).2 = true ↔ y ≠ (roundShift rm neg mant shift tail).1) := by
  set q := mant / 2 ^ shift with hq
  set r := mant % 2 ^ shift with hr
  have hdm : 2 ^ shift * q + r = mant := Nat.div_add_mod mant (2 ^ shift)
  have hrl : r < 2 ^ shift := Nat.mod_lt _ (by positivity)
  have hD : (0 : ℝ) < 2 ^ shift := by positivity
  have hdmR : (2 : ℝ) ^ shift * q + r = mant := by exact_mod_cast hdm
  have hrlR : (r : ℝ) + 1 ≤ 2 ^ shift := by exact_mod_cast hrl
  have hr0 : (0 : ℝ) ≤ r := by positivity
  -- `y = q + t` with `t = (r + tail) / 2 ^ shift`
  obtain ⟨t, ht⟩ : ∃ t : ℝ, t = (y - q) * 2 ^ shift := ⟨_, rfl⟩
  have hyt : y = q + t / 2 ^ shift := by rw [ht]; field_simp; ring
  have hyD : y * 2 ^ shift = 2 ^ shift * q + t := by rw [ht]; ring
  have htr : if tail then (r : ℝ) < t ∧ t < r + 1 else t = r := by
    rw [hyD, ← hdmR] at hy
    cases tail
    · simp only [Bool.false_eq_true, if_false] at hy ⊢; linarith
    · simp only [if_true] at hy ⊢; constructor <;> linarith [hy.1, hy.2]
  have ht0 : 0 ≤ t := by
    cases tail <;> simp at htr
    · rw [htr]; exact hr0
    · linarith [htr.1]
  have htD : t < 2 ^ shift := by
    cases tail <;> simp at htr
    · rw [htr]; exact_mod_cast hrl
    · linarith [htr.2]
  have hix : (decide (r ≠ 0) || tail) = true ↔ 0 < t := by
    cases tail <;> simp at htr ⊢
    · rw [htr]; simp [Nat.pos_iff_ne_zero]
    · linarith [htr.1]
  have hlt : (t / 2 ^ shift) < 1 := by rw [div_lt_one hD]; exact htD
  have hge : 0 ≤ t / 2 ^ shift := by positivity
  have hpos : 0 < t / 2 ^ shift ↔ 0 < t := by
    constructor
    · intro h; by_contra hc; rw [le_antisymm (not_lt.mp hc) ht0] at h; simp at h
    · intro h; positivity
  have hne0 : y ≠ q ↔ 0 < t := by
    rw [hyt, ← hpos]; constructor
    · intro h; rcases hge.lt_or_eq with h1 | h1
      · exact h1
      · exact absurd (by rw [← h1]; simp) h
    · intro h h1; linarith
  have hne1 : y ≠ (q + 1 : ℕ) := by rw [hyt]; push_cast; intro h; linarith
  have floorq : (q : ℝ) ≤ y ∧ y < q + 1 := by rw [hyt]; constructor <;> linarith
  have e2 : (roundShift rm neg mant shift tail).2 = (decide (r ≠ 0) || tail) := rfl
  -- the two exits
  have exit0 : (roundShift rm neg mant shift tail).1 = q → ((rm.dir neg).rounds y q) →
      (rm.dir neg).rounds y (roundShift rm neg mant shift tail).1 ∧
      ((roundShift rm neg mant shift tail).2 = true ↔ y ≠ (roundShift rm neg mant shift tail).1) := by
    intro h1 h2; rw [h1]; exact ⟨h2, by rw [e2, hix, hne0]⟩
  have exit1 : (roundShift rm neg mant shift tail).1 = q + 1 → 0 < t → ((rm.dir neg).rounds y (q + 1 : ℕ)) →
      (rm.dir neg).rounds y (roundShift rm neg mant shift tail).1 ∧
      ((roundShift rm neg mant shift tail).2 = true ↔ y ≠ (roundShift rm neg mant shift tail).1) := by
    intro h1 h0 h2; rw [h1]; refine ⟨h2, ?_⟩
    rw [e2, hix]; exact ⟨fun _ => hne1, fun _ => h0⟩
  have ceilCase : rm.dir neg = .ceil →
      (roundShift rm neg mant shift tail).1 = (if (decide (r ≠ 0) || tail) then q + 1 else q) →
      (rm.dir neg).rounds y (roundShift rm neg mant shift tail).1 ∧
      ((roundShift rm neg mant shift tail).2 = true ↔ y ≠ (roundShift rm neg mant shift tail).1) := by
    intro hd h1
    by_cases h : (decide (r ≠ 0) || tail) = true
    · rw [if_pos h] at h1
      refine exit1 h1 (hix.mp h) ?_
      rw [hd]; simp only [Dir.rounds]; push_cast
      have := hpos.mpr (hix.mp h)
      rw [hyt]; constructor <;> linarith
    · rw [if_neg h] at h1
      refine exit0 h1 ?_
      have : ¬ 0 < t := fun k => h (hix.mpr k)
      have hy0 : y = q := by by_contra hc; exact this (hne0.mp hc)
      rw [hd]; simp only [Dir.rounds]; rw [hy0]; constructor <;> linarith
  have floorCase : rm.dir neg = .floor →
      (roundShift rm neg mant shift tail).1 = q →
      (rm.dir neg).rounds y (roundShift rm neg mant shift tail).1 ∧
      ((roundShift rm neg mant shift tail).2 = true ↔ y ≠ (roundShift rm neg mant shift tail).1) := by
    intro hd h1; exact exit0 h1 (by rw [hd]; exact floorq)
  cases rm with
  | zero => exact floorCase rfl (by simp [roundShift, hq])
  | up =>
    cases neg with
    | true => exact floorCase rfl (by simp [roundShift, hq])
    | false => exact ceilCase rfl (by simp [roundShift, hq, hr])
  | down =>
    cases neg with
    | true => exact ceilCase rfl (by simp [roundShift, hq, hr])
    | false => exact floorCase rfl (by simp [roundShift, hq])
  | nearest =>
    have hd : ∀ b, Rounding.dir .nearest b = .near := fun _ => rfl
    by_cases h : (decide (2 * r > 2 ^ shift) || (decide (2 * r = 2 ^ shift) && (tail || q % 2 == 1))) = true
    · have h1 : (roundShift .nearest neg mant shift tail).1 = q + 1 := by
        simp only [roundShift, ← hq, ← hr]; rw [if_pos h]
      have h2 : (2 : ℝ) ^ shift ≤ 2 * t ∧ (2 * t = 2 ^ shift → q % 2 = 1) := by
        simp only [Bool.or_eq_true, Bool.and_eq_true, decide_eq_true_eq, beq_iff_eq, gt_iff_lt] at h
        have c1 : 2 ^ shift < 2 * r → (2 : ℝ) ^ shift < 2 * r := fun k => by exact_mod_cast k
        have c2 : 2 * r = 2 ^ shift → 2 * (r : ℝ) = 2 ^ shift := fun k => by exact_mod_cast k
        cases tail <;> simp at htr h
        · rcases h with h | ⟨h, h'⟩
          · have := c1 h; rw [htr]; exact ⟨by linarith, fun k => by linarith⟩
          · have := c2 h; rw [htr]; exact ⟨by linarith, fun _ => h'⟩
        · rcases h with h | h
          · have := c1 h; exact ⟨by linarith [htr.1], fun k => by linarith [htr.1]⟩
          · have := c2 h; exact ⟨by linarith [htr.1], fun k => by linarith [htr.1]⟩
      refine exit1 h1 (by linarith [h2.1]) ?_
      rw [hd]; simp only [Dir.rounds]; push_cast
      have e : y - (q + 1) = t / 2 ^ shift - 1 := by rw [hyt]; ring
      rw [e, abs_of_neg (by linarith)]
      have h3 : 1 / 2 ≤ t / 2 ^ shift := by rw [le_div_iff₀ hD]; linarith [h2.1]
      refine ⟨by linarith, fun k => ?_⟩
      have : t / 2 ^ shift = 1 / 2 := by linarith
      have := h2.2 (by field_simp at this; linarith)
      omega
    · have h1 : (roundShift .nearest neg mant shift tail).1 = q := by
        simp only [roundShift, ← hq, ← hr]; rw [if_neg h]
      have h2 : 2 * t ≤ 2 ^ shift ∧ (2 * t = 2 ^ shift → q % 2 = 0) := by
        simp only [Bool.or_eq_true, Bool.and_eq_true, decide_eq_true_eq, beq_iff_eq, gt_iff_lt, not_or, not_and,
          not_lt] at h
        have c0 : 2 * (r : ℝ) ≤ 2 ^ shift := by exact_mod_cast h.1
        cases tail <;> simp at htr h
        · rw [htr]; refine ⟨c0, fun k => ?_⟩
          have : 2 * r = 2 ^ shift := by exact_mod_cast k
          have := h.2 this; omega
        · have h3 : 2 * r < 2 ^ shift := lt_of_le_of_ne h.1 h.2
          have h4 : 2 * r + 2 ≤ 2 ^ shift := by
            obtain ⟨k, hk⟩ := Nat.exists_eq_succ_of_ne_zero (hs rfl).ne'
            rw [hk, pow_succ] at h3 ⊢; omega
          have h5 : 2 * (r : ℝ) + 2 ≤ 2 ^ shift := by exact_mod_cast h4
          exact ⟨by linarith [htr.2], fun k => by linarith [htr.2]⟩
      refine exit0 h1 ?_
      rw [hd]; simp only [Dir.rounds]
      have e : y - q = t / 2 ^ shift := by rw [hyt]; ring
      rw [e, abs_of_nonneg hge]
      refine ⟨by rw [div_le_iff₀ hD]; linarith [h2.1], fun k => ?_⟩
      exact h2.2 (by field_simp at k; linarith)

theorem two_zpow_pos (k : ℤ) : (0 : ℝ) < (2 : ℝ) ^ k := by positivity

theorem two_zpow_toNat {k : ℤ} (h : 0 ≤ k) : ((2 : ℝ) ^ k.toNat) = (2 : ℝ) ^ k := by
  rw [← zpow_natCast, Int.toNat_of_nonneg h]

theorem Dir.rounds_self (d : Dir) (n : ℕ) : d.rounds n n := by
  cases d <;> simp [Dir.rounds]

theorem roundAt_spec (rm : Rounding) (neg : Bool) (mant : ℕ) (exp : ℤ) (tail : Bool) (quantum : ℤ) (x : ℝ)
    (hx : Magnitude mant exp tail x) (ht : tail = true → exp < quantum) :
    (rm.dir neg).rounds (x / 2 ^ quantum) (roundAt rm neg mant exp tail quantum).1 ∧
      ((roundAt rm neg mant exp tail quantum).2 = true ↔
        x ≠ (roundAt rm neg mant exp tail quantum).1 * 2 ^ quantum) := by
  have hq := two_zpow_pos quantum
  unfold roundAt
  by_cases h : quantum ≤ exp
  · rw [if_pos h]
    have htf : tail = false := by cases tail; rfl; exact absurd (ht rfl) (by omega)
    subst htf
    simp only [Magnitude, Bool.false_eq_true, if_false] at hx
    have e : x = ((mant * 2 ^ (exp - quantum).toNat : ℕ) : ℝ) * 2 ^ quantum := by
      push_cast
      rw [two_zpow_toNat (by omega), mul_assoc, ← zpow_add₀ (by norm_num), hx]; congr 2; omega
    refine ⟨?_, iff_of_false (by simp) (fun k => k e)⟩
    have e2 : x / 2 ^ quantum = ((mant * 2 ^ (exp - quantum).toNat : ℕ) : ℝ) := by
      rw [e]; field_simp
    rw [e2]; exact Dir.rounds_self _ _
  · rw [if_neg h]
    have hsh : ((2 : ℝ) ^ (quantum - exp).toNat) = 2 ^ quantum / 2 ^ exp := by
      rw [two_zpow_toNat (by omega), zpow_sub₀ (by norm_num)]
    have he := two_zpow_pos exp
    have hmul : x / 2 ^ quantum * 2 ^ (quantum - exp).toNat = x / 2 ^ exp := by
      rw [hsh]; field_simp
    have := roundShift_spec rm neg mant (quantum - exp).toNat tail (x / 2 ^ quantum) (fun _ => by omega) (by
      rw [hmul]
      unfold Magnitude at hx
      cases tail
      · simp only [Bool.false_eq_true, if_false] at hx ⊢; rw [hx]; field_simp
      · simp only [if_true] at hx ⊢
        exact ⟨by rw [lt_div_iff₀ he]; exact hx.1, by rw [div_lt_iff₀ he]; exact hx.2⟩)
    refine ⟨this.1, this.2.trans ?_⟩
    rw [Ne, div_eq_iff hq.ne']

/-! ### Comparing a rounded magnitude with a power of two -/

/-- The least magnitude that a rounding to `p + 1` digits brings to `2 ^ t` or above. -/
def Dir.reaches (d : Dir) (p : ℕ) (x : ℝ) (t : ℤ) : Prop :=
  match d with
  | .near => (2 : ℝ) ^ t - 2 ^ (t - 2 - p) ≤ x
  | .floor => (2 : ℝ) ^ t ≤ x
  | .ceil => (2 : ℝ) ^ t - 2 ^ (t - 1 - p) < x

theorem Dir.rounds_le {d : Dir} {y : ℝ} {n : ℕ} (h : d.rounds y n) {k : ℕ} (hk : y ≤ k) : n ≤ k := by
  cases d <;> simp only [Dir.rounds] at h
  · by_contra hc
    have h1 : (k : ℝ) + 1 ≤ n := by exact_mod_cast (by omega : k + 1 ≤ n)
    rw [abs_of_nonpos (by linarith)] at h
    have : y = k ∧ (n : ℝ) = k + 1 := ⟨by linarith [h.1], by linarith [h.1]⟩
    linarith [h.1]
  · exact_mod_cast h.1.trans hk
  · have : (n : ℝ) < k + 1 := by linarith [h.1]
    have : n < k + 1 := by exact_mod_cast this
    omega

theorem Dir.le_rounds {d : Dir} {y : ℝ} {n : ℕ} (h : d.rounds y n) {k : ℕ} (hk : (k : ℝ) ≤ y) : k ≤ n := by
  cases d <;> simp only [Dir.rounds] at h
  · by_contra hc
    have h1 : (n : ℝ) + 1 ≤ k := by exact_mod_cast (by omega : n + 1 ≤ k)
    rw [abs_of_nonneg (by linarith)] at h
    linarith [h.1]
  · have : (k : ℝ) < n + 1 := by linarith [h.2]
    have : k < n + 1 := by exact_mod_cast this
    omega
  · exact_mod_cast hk.trans h.2

/-- Rounding `y` up to `2 * m` from below. -/
theorem Dir.rounds_even {d : Dir} {y : ℝ} {n : ℕ} (h : d.rounds y n) (m : ℕ) (hm : 0 < m) :
    2 * m ≤ n ↔ match d with
      | .near => (2 * m : ℝ) - 1 / 2 ≤ y
      | .floor => (2 * m : ℝ) ≤ y
      | .ceil => (2 * m : ℝ) - 1 < y := by
  have cast : 2 * m ≤ n ↔ (2 * m : ℝ) ≤ n := by exact_mod_cast Iff.rfl
  have cast2 : ¬ 2 * m ≤ n ↔ (n : ℝ) ≤ 2 * m - 1 := by
    rw [not_le]; constructor
    · intro h; have : n + 1 ≤ 2 * m := h
      have : (n : ℝ) + 1 ≤ 2 * m := by exact_mod_cast this
      linarith
    · intro h; have : (n : ℝ) < 2 * m := by linarith
      exact_mod_cast this
  cases d <;> simp only [Dir.rounds] at h ⊢
  · constructor
    · intro k; rw [cast] at k; have := abs_le.mp h.1; linarith
    · intro k; by_contra hc
      have h1 := cast2.mp hc
      have h2 := abs_le.mp h.1
      have h3 : (n : ℝ) = 2 * m - 1 := by linarith
      have h4 := h.2 (by rw [abs_of_nonneg (by linarith)]; linarith)
      have h5 : n = 2 * m - 1 := by
        have : (n : ℝ) + 1 = 2 * m := by linarith
        have : n + 1 = 2 * m := by exact_mod_cast this
        omega
      omega
  · constructor
    · intro k; rw [cast] at k; linarith [h.1]
    · intro k; by_contra hc; have h1 := cast2.mp hc; linarith [h.2]
  · constructor
    · intro k; rw [cast] at k; linarith [h.1]
    · intro k; by_contra hc; have h1 := cast2.mp hc; linarith [h.2]

/-- Whether a magnitude in `[2 ^ (u + p), 2 ^ (u + p + 1))`, rounded to a multiple of `2 ^ u`, reaches `2 ^ t`. -/
theorem Dir.reaches_iff {d : Dir} {p : ℕ} {x : ℝ} {u t : ℤ} {n : ℕ} (h : d.rounds (x / 2 ^ u) n)
    (hl : (2 : ℝ) ^ (u + p) ≤ x) (hh : x < (2 : ℝ) ^ (u + p + 1)) :
    (2 : ℝ) ^ t ≤ n * 2 ^ u ↔ d.reaches p x t := by
  have hu := two_zpow_pos u
  have hpow : ∀ a b : ℤ, (2 : ℝ) ^ (a + b) = 2 ^ a * 2 ^ b := fun a b => zpow_add₀ (by norm_num) a b
  have pnat : ∀ k : ℕ, (2 : ℝ) ^ (k : ℤ) = ((2 ^ k : ℕ) : ℝ) := fun k => by push_cast; exact zpow_natCast 2 k
  have mono : ∀ a b : ℤ, a ≤ b → (2 : ℝ) ^ a ≤ 2 ^ b := fun a b h => zpow_le_zpow_right₀ (by norm_num) h
  have hnl : 2 ^ p ≤ n := by
    apply Dir.le_rounds h
    rw [le_div_iff₀ hu, ← pnat, mul_comm, ← hpow]; exact hl
  have hnh : n ≤ 2 ^ (p + 1) := by
    apply Dir.rounds_le h
    rw [div_le_iff₀ hu, ← pnat, mul_comm, ← hpow]
    refine hh.le.trans (le_of_eq ?_); push_cast; congr 1; ring
  have hnlR : (2 : ℝ) ^ (u + p) ≤ n * 2 ^ u := by
    rw [hpow, pnat, mul_comm]; exact mul_le_mul_of_nonneg_right (by exact_mod_cast hnl) hu.le
  have hnhR : (n : ℝ) * 2 ^ u ≤ 2 ^ (u + p + 1) := by
    rw [add_assoc, hpow, show ((p : ℤ) + 1) = ((p + 1 : ℕ) : ℤ) by push_cast; ring, pnat, mul_comm]
    exact mul_le_mul_of_nonneg_left (by exact_mod_cast hnh) hu.le
  rcases lt_trichotomy t (u + p + 1) with ht | ht | ht
  · -- below: both hold
    have h1 : (2 : ℝ) ^ t ≤ 2 ^ (u + p) := mono _ _ (by omega)
    have h2 : (0 : ℝ) < 2 ^ (t - 2 - p) := two_zpow_pos _
    have h3 : (0 : ℝ) < 2 ^ (t - 1 - p) := two_zpow_pos _
    refine iff_of_true (h1.trans hnlR) ?_
    cases d <;> simp only [Dir.reaches] <;> linarith
  · subst ht
    have e1 : (2 : ℝ) ^ (u + p + 1) = 2 * 2 ^ p * 2 ^ u := by
      rw [hpow, hpow, zpow_one, pnat]; push_cast; ring
    have e2 : (2 : ℝ) ^ (u + p + 1 - 2 - p) = 2 ^ u / 2 := by
      rw [show u + p + 1 - 2 - p = u - 1 by ring, zpow_sub₀ (by norm_num), zpow_one]
    have e3 : (2 : ℝ) ^ (u + p + 1 - 1 - p) = 2 ^ u := by congr 1; ring
    have key := Dir.rounds_even h (2 ^ p) (by positivity)
    have e4 : (2 : ℝ) ^ (u + p + 1) ≤ n * 2 ^ u ↔ 2 * 2 ^ p ≤ n := by
      rw [e1, mul_le_mul_iff_left₀ hu]; exact_mod_cast Iff.rfl
    rw [e4, key]
    cases d <;> simp only [Dir.reaches] <;> push_cast
    · rw [e1, e2, le_div_iff₀ hu]; constructor <;> intro k <;> linarith
    · rw [e1, le_div_iff₀ hu]
    · rw [e1, e3, lt_div_iff₀ hu]; constructor <;> intro k <;> linarith
  · -- above: neither holds
    have h1 : (2 : ℝ) * 2 ^ (u + p + 1) ≤ 2 ^ t := by
      have := mono (u + p + 1 + 1) t (by omega)
      rw [hpow (u + p + 1) 1, zpow_one] at this; linarith
    have h0 := two_zpow_pos (u + p + 1)
    have h2 : (2 : ℝ) ^ (t - 2 - p) ≤ 2 ^ t / 4 := by
      have := mono (t - 2 - p) (t - 2) (by omega)
      rw [zpow_sub₀ (by norm_num) t 2] at this; norm_num at this ⊢; linarith
    have h3 : (2 : ℝ) ^ (t - 1 - p) ≤ 2 ^ t / 2 := by
      have := mono (t - 1 - p) (t - 1) (by omega)
      rw [zpow_sub₀ (by norm_num) t 1] at this; norm_num at this ⊢; linarith
    refine iff_of_false (by linarith) ?_
    cases d <;> simp only [Dir.reaches, not_le, not_lt] <;> linarith

/-! ### The finite values of a format -/

theorem Format.facts (f : Format) :
    2 ≤ f.fracBits ∧ (2 : ℤ) ^ f.expBits = 2 * f.emax + 2 ∧ 2 ≤ f.emax ∧ f.width = f.fracBits + f.expBits + 1 := by
  cases f <;> decide

/-- The exponent of the least subnormal number. -/
def Format.least (f : Format) : ℤ := f.emin - f.fracBits

/-- Every finite value is a multiple of a power of two, within the format's range. -/
theorem unpack_finite {f : Format} {bits : ℕ} {neg : Bool} {m : ℕ} {q : ℤ} (h : unpack f bits = .finite neg m q) :
    f.least ≤ q ∧ q + f.fracBits ≤ f.emax ∧ m < 2 ^ (f.fracBits + 1) := by
  obtain ⟨hp, he, hm, -⟩ := f.facts
  have hb : bits / 2 ^ f.fracBits % 2 ^ f.expBits < 2 ^ f.expBits := Nat.mod_lt _ (by positivity)
  have hf : bits % 2 ^ f.fracBits < 2 ^ f.fracBits := Nat.mod_lt _ (by positivity)
  have hbI : ((bits / 2 ^ f.fracBits % 2 ^ f.expBits : ℕ) : ℤ) < 2 ^ f.expBits := by exact_mod_cast hb
  unfold unpack at h
  simp only at h
  split at h
  · split at h <;> cases h
  · split at h
    · injection h with h1 h2 h3
      subst h2 h3
      refine ⟨le_refl _, ?_, hf.trans (by rw [pow_succ]; omega)⟩
      unfold Format.emin; omega
    · rename_i h4 h5
      injection h with h1 h2 h3
      subst h2 h3
      have hc : bits / 2 ^ f.fracBits % 2 ^ f.expBits + 1 < 2 ^ f.expBits := by omega
      have hcI : ((bits / 2 ^ f.fracBits % 2 ^ f.expBits : ℕ) : ℤ) + 1 < 2 ^ f.expBits := by exact_mod_cast hc
      refine ⟨?_, ?_, by rw [pow_succ]; omega⟩
      · unfold Format.least; omega
      · unfold Format.emin; omega

theorem isFp_abs {f : Format} {bits : ℕ} {z : ℝ} (h : IsFp f bits z) :
    ∃ (m : ℕ) (q : ℤ), |z| = m * 2 ^ q ∧ f.least ≤ q ∧ q + f.fracBits ≤ f.emax ∧ m < 2 ^ (f.fracBits + 1) := by
  obtain ⟨-, h⟩ := h
  cases hu : unpack f bits with
  | nan p => rw [hu] at h; cases h
  | inf p => rw [hu] at h; cases h
  | finite neg m q =>
    rw [hu] at h
    simp only [FpValue.real, Option.some.injEq] at h
    refine ⟨m, q, ?_, unpack_finite hu⟩
    rw [← h]; cases neg <;> simp [abs_mul]

/-- The encoding of `n * 2 ^ quantum` by a rounding, as [biased exponent, fraction] with a carry into the exponent. -/
theorem unpack_encode (f : Format) (neg : Bool) (n : ℕ) (quantum : ℤ) (hq : f.least ≤ quantum)
    (hn : n ≤ 2 ^ (f.fracBits + 1)) (hsub : quantum = f.least ∨ 2 ^ f.fracBits ≤ n)
    (hmax : n = 0 ∨ quantum + Nat.log2 n ≤ f.emax) :
    let bits := signBits f neg + ((quantum - f.least).toNat * 2 ^ f.fracBits + n)
    IsFp f bits ((if neg then -1 else 1) * (n * 2 ^ quantum)) ∧ bits % 2 = n % 2 ∧
      (2 ^ (f.width - 1) ≤ bits ↔ neg = true) := by
  intro bits
  obtain ⟨hp, he, hem, hw⟩ := f.facts
  set p := f.fracBits with hpd
  set e := f.expBits with hed
  obtain ⟨k, hk⟩ : ∃ k : ℕ, (quantum - f.least).toNat = k := ⟨_, rfl⟩
  have hkq : quantum = f.least + k := by omega
  have hleast : f.least = 1 - f.emax - p := rfl
  have e1 : (2 : ℕ) ^ e ≥ 1 := Nat.one_le_two_pow
  -- the biased exponent and fraction
  obtain ⟨B, F, hBF, hF, hB, hval⟩ : ∃ B F : ℕ, k * 2 ^ p + n = B * 2 ^ p + F ∧ F < 2 ^ p ∧ B + 1 < 2 ^ e ∧
      ((B = 0 ∧ (n : ℝ) * 2 ^ quantum = F * 2 ^ f.least) ∨
       (B ≠ 0 ∧ (n : ℝ) * 2 ^ quantum = ((2 ^ p + F : ℕ) : ℝ) * 2 ^ (f.least + ((B : ℤ) - 1)))) := by
    by_cases h1 : n < 2 ^ p
    · have hk0 : k = 0 := by rcases hsub with h | h <;> omega
      refine ⟨0, n, by simp [hk0], h1, ?_, .inl ⟨rfl, by rw [hkq, hk0]; simp⟩⟩
      have : (2 : ℤ) ≤ 2 ^ e := by rw [he]; omega
      have : 2 ≤ 2 ^ e := by exact_mod_cast this
      have : (2 : ℤ) ^ e ≥ 3 := by rw [he]; omega
      have : 2 ^ e ≥ 3 := by exact_mod_cast this
      omega
    · have hn0 : n ≠ 0 := by have : 0 < 2 ^ p := by positivity
                             omega
      have hmx : quantum + Nat.log2 n ≤ f.emax := by rcases hmax with h | h; exact absurd h hn0; exact h
      by_cases h2 : n < 2 ^ (p + 1)
      · have hl : Nat.log2 n = p := (Nat.log2_eq_iff hn0).mpr ⟨by omega, h2⟩
        have : n - 2 ^ p < 2 ^ p := by rw [pow_succ] at h2; omega
        refine ⟨k + 1, n - 2 ^ p, by rw [add_mul]; omega, this, ?_, .inr ⟨by omega, ?_⟩⟩
        · have : ((k + 1 + 1 : ℕ) : ℤ) < 2 ^ e := by push_cast; rw [he]; omega
          exact_mod_cast this
        · rw [show 2 ^ p + (n - 2 ^ p) = n by omega]; rw [hkq]; push_cast; congr 2; ring
      · have hn2 : n = 2 ^ (p + 1) := by omega
        have hl : Nat.log2 n = p + 1 := by rw [hn2]; exact Nat.log2_two_pow
        refine ⟨k + 2, 0, by rw [hn2, pow_succ]; ring, by positivity, ?_, .inr ⟨by omega, ?_⟩⟩
        · have : ((k + 2 + 1 : ℕ) : ℤ) < 2 ^ e := by push_cast; rw [he]; omega
          exact_mod_cast this
        · rw [hn2, hkq]; push_cast
          rw [show f.least + ((k : ℤ) + 2 - 1) = f.least + k + 1 by ring, zpow_add₀ (by norm_num) _ (1 : ℤ), pow_succ]
          ring
  have hbits : bits = signBits f neg + (B * 2 ^ p + F) := by
    show signBits f neg + ((quantum - f.least).toNat * 2 ^ p + n) = _; rw [hk, hBF]
  have hlow : B * 2 ^ p + F < 2 ^ (p + e) := by
    have : (B + 1) * 2 ^ p ≤ 2 ^ e * 2 ^ p := Nat.mul_le_mul_right _ (by omega)
    rw [pow_add]; rw [add_mul] at this; nlinarith
  have hpe : 2 ^ (p + e) = 2 ^ p * 2 ^ e := pow_add _ _ _
  have hsign : signBits f neg = (if neg then 1 else 0) * 2 ^ (p + e) := by
    unfold signBits; cases neg <;> simp [hpd, hed]
  have d1 : bits % 2 ^ p = F := by
    rw [hbits, hsign, hpe, ← mul_assoc, mul_right_comm, ← add_assoc, ← add_mul, Nat.add_comm, Nat.add_mul_mod_self_right,
      Nat.mod_eq_of_lt hF]
  have d2 : bits / 2 ^ p = (if neg then 1 else 0) * 2 ^ e + B := by
    rw [hbits, hsign, hpe, ← mul_assoc, mul_right_comm, ← add_assoc, ← add_mul, Nat.add_comm,
      Nat.add_mul_div_right _ _ (by positivity), Nat.div_eq_of_lt hF, Nat.zero_add]
  have d3 : bits / 2 ^ p % 2 ^ e = B := by
    rw [d2, Nat.add_comm, Nat.add_mul_mod_self_right, Nat.mod_eq_of_lt (by omega)]
  have d4 : bits / 2 ^ (p + e) % 2 = if neg then 1 else 0 := by
    rw [hpe, ← Nat.div_div_eq_div_mul, d2, Nat.add_comm, Nat.add_mul_div_right _ _ (by positivity),
      Nat.div_eq_of_lt (by omega)]
    cases neg <;> simp
  refine ⟨⟨?_, ?_⟩, ?_, ?_⟩
  · rw [hw, pow_succ, hbits, hsign]; cases neg <;> (simp; omega)
  · unfold unpack
    simp only [← hpd, ← hed]
    rw [d3, d1, d4, if_neg (by omega)]
    rcases hval with ⟨hB0, hv⟩ | ⟨hB0, hv⟩
    · rw [if_pos hB0, hv]; simp only [FpValue.real, Format.least, hpd, mul_assoc]
      cases neg <;> simp
    · rw [if_neg hB0, hv]; simp only [FpValue.real, Format.least, hpd, mul_assoc]
      cases neg <;> simp
  · have hev : ∀ a : ℕ, (a * 2 ^ p) % 2 = 0 := fun a => by
      obtain ⟨j, hj⟩ : ∃ j, p = j + 1 := ⟨p - 1, by omega⟩
      rw [hj, pow_succ, ← mul_assoc, Nat.mul_mod_left]
    have hs2 : signBits f neg % 2 = 0 := by
      rw [hsign, hpe, mul_comm (2 ^ p), ← mul_assoc]; exact hev _
    have := hev k
    show (signBits f neg + ((quantum - f.least).toNat * 2 ^ p + n)) % 2 = n % 2
    rw [hk]; omega
  · rw [show f.width - 1 = p + e by omega, hbits, hsign]; cases neg <;> simp <;> omega

/-- Where a value of the format lies against the multiples of `2 ^ quantum`. -/
theorem isFp_grid {f : Format} {bits : ℕ} {z : ℝ} (h : IsFp f bits z) {quantum : ℤ} (hq : f.least ≤ quantum) :
    (∃ k : ℕ, |z| = k * 2 ^ quantum) ∨ (f.least < quantum ∧ |z| < 2 ^ (quantum + f.fracBits)) := by
  obtain ⟨m, q, hz, h1, -, h3⟩ := isFp_abs h
  by_cases hc : quantum ≤ q
  · refine .inl ⟨m * 2 ^ (q - quantum).toNat, ?_⟩
    rw [hz]; push_cast
    rw [two_zpow_toNat (by omega), mul_assoc, ← zpow_add₀ (by norm_num)]; congr 2; omega
  · refine .inr ⟨by omega, ?_⟩
    rw [hz]
    have : (m : ℝ) < 2 ^ ((f.fracBits + 1 : ℕ) : ℤ) := by rw [zpow_natCast]; exact_mod_cast h3
    calc (m : ℝ) * 2 ^ q < 2 ^ ((f.fracBits + 1 : ℕ) : ℤ) * 2 ^ q := mul_lt_mul_of_pos_right this (two_zpow_pos q)
      _ = 2 ^ (q + 1 + f.fracBits) := by rw [← zpow_add₀ (by norm_num)]; congr 1; push_cast; ring
      _ ≤ 2 ^ (quantum + f.fracBits) := zpow_le_zpow_right₀ (by norm_num) (by omega)

/-- The magnitude `y` rounded from `x` is the best of the magnitudes `z`; `n` is its last digit. -/
def Dir.best (d : Dir) (n : ℕ) (y x z : ℝ) : Prop :=
  match d with
  | .near => |y - x| ≤ |z - x| ∧ (|y - x| = |z - x| → z ≠ y → n % 2 = 0)
  | .floor => y ≤ x ∧ (z ≤ x → z ≤ y)
  | .ceil => x ≤ y ∧ (x ≤ z → y ≤ z)

/-- A magnitude rounded to a multiple of `2 ^ quantum` against every magnitude of the format. -/
theorem rounds_best {f : Format} {d : Dir} {x : ℝ} {n : ℕ} {quantum : ℤ} (hq : f.least ≤ quantum)
    (hn : d.rounds (x / 2 ^ quantum) n) (hs : quantum = f.least ∨ (2 : ℝ) ^ (quantum + f.fracBits) ≤ x)
    {bits : ℕ} {z : ℝ} (h : IsFp f bits z) :
    d.best n (n * 2 ^ quantum) x |z| := by
  have hu := two_zpow_pos quantum
  obtain ⟨y, hy⟩ : ∃ y, y = x / 2 ^ quantum := ⟨_, rfl⟩
  have hxy : x = y * 2 ^ quantum := by rw [hy]; field_simp
  rw [← hy] at hn
  have hsmall : (∃ k : ℕ, |z| = k * 2 ^ quantum) ∨
      (|z| < 2 ^ f.fracBits * 2 ^ quantum ∧ (2 : ℝ) ^ f.fracBits ≤ y) := by
    rcases isFp_grid h hq with h1 | ⟨h1, h2⟩
    · exact .inl h1
    · have e : (2 : ℝ) ^ (quantum + f.fracBits) = 2 ^ f.fracBits * 2 ^ quantum := by
        rw [zpow_add₀ (by norm_num), zpow_natCast]; ring
      rcases hs with h3 | h3
      · omega
      · rw [e] at h2 h3; rw [hxy] at h3
        exact .inr ⟨h2, le_of_mul_le_mul_right h3 hu⟩
  have hlow : (2 : ℝ) ^ f.fracBits ≤ y → 2 ^ f.fracBits ≤ n := fun k => Dir.le_rounds hn (by push_cast; exact k)
  cases d <;> simp only [Dir.rounds, Dir.best] at hn ⊢
  · -- nearest
    rcases hsmall with ⟨k, hk⟩ | ⟨h1, h2⟩
    · have e1 : |(n : ℝ) * 2 ^ quantum - x| = |y - n| * 2 ^ quantum := by
        rw [hxy, ← sub_mul, abs_mul, abs_of_pos hu, abs_sub_comm]
      have e2 : |(|z| - x)| = |y - k| * 2 ^ quantum := by
        rw [hk, hxy, ← sub_mul, abs_mul, abs_of_pos hu, abs_sub_comm]
      rw [e1, e2]
      by_cases hkn : k = n
      · subst hkn; exact ⟨le_refl _, fun _ c => absurd hk c⟩
      · have hd : (1 : ℝ) ≤ |(k : ℝ) - n| := by
          have : (1 : ℤ) ≤ |(k : ℤ) - n| := Int.one_le_abs (by omega)
          exact_mod_cast this
        have htri : |(k : ℝ) - n| ≤ |y - k| + |y - n| := by
          have := abs_sub_le (k : ℝ) y n
          rw [abs_sub_comm (k : ℝ) y] at this; exact this
        refine ⟨mul_le_mul_of_nonneg_right (by linarith [hn.1]) hu.le, fun c _ => ?_⟩
        have := mul_right_cancel₀ hu.ne' c
        exact hn.2 (by linarith [hn.1])
    · have hf : (2 : ℝ) ^ f.fracBits ≤ n := by exact_mod_cast hlow h2
      have hzx : |z| < x := by
        rw [hxy]; exact h1.trans_le (mul_le_mul_of_nonneg_right h2 hu.le)
      have : |(n : ℝ) * 2 ^ quantum - x| < |(|z| - x)| := by
        rw [abs_of_neg (by linarith : |z| - x < 0), hxy, ← sub_mul, abs_mul, abs_of_pos hu]
        have h3 : |(n : ℝ) - y| ≤ y - 2 ^ f.fracBits := by
          have habs := hn.1
          rw [abs_sub_comm] at habs
          by_contra hc
          rw [not_le] at hc
          have hlt : y - 2 ^ f.fracBits < 1 / 2 := lt_of_lt_of_le hc habs
          have hpn : n ≤ 2 ^ f.fracBits := by
            by_contra hc2
            have : (2 : ℝ) ^ f.fracBits + 1 ≤ n := by exact_mod_cast (by omega : 2 ^ f.fracBits + 1 ≤ n)
            have := (abs_le.mp habs).2
            linarith
          have hnE : (n : ℝ) = 2 ^ f.fracBits := by exact_mod_cast le_antisymm hpn (hlow h2)
          rw [hnE, abs_of_nonpos (by linarith)] at hc; linarith
        nlinarith
      exact ⟨this.le, fun c => absurd c this.ne⟩
  · refine ⟨by rw [hxy]; exact mul_le_mul_of_nonneg_right hn.1 hu.le, fun hz => ?_⟩
    rcases hsmall with ⟨k, hk⟩ | ⟨h1, h2⟩
    · rw [hk, hxy] at hz
      have h3 : (k : ℝ) ≤ y := le_of_mul_le_mul_right hz hu
      have h4 : k ≤ n := Dir.le_rounds (d := .floor) hn h3
      rw [hk]; exact mul_le_mul_of_nonneg_right (by exact_mod_cast h4) hu.le
    · have hf : (2 : ℝ) ^ f.fracBits ≤ n := by exact_mod_cast hlow h2
      exact h1.le.trans (mul_le_mul_of_nonneg_right hf hu.le)
  · refine ⟨by rw [hxy]; exact mul_le_mul_of_nonneg_right hn.2 hu.le, fun hz => ?_⟩
    rcases hsmall with ⟨k, hk⟩ | ⟨h1, h2⟩
    · rw [hk, hxy] at hz
      have h3 : y ≤ k := le_of_mul_le_mul_right hz hu
      have h4 : n ≤ k := Dir.rounds_le (d := .ceil) hn h3
      rw [hk]; exact mul_le_mul_of_nonneg_right (by exact_mod_cast h4) hu.le
    · have : 2 ^ f.fracBits * 2 ^ quantum ≤ x := by rw [hxy]; exact mul_le_mul_of_nonneg_right h2 hu.le
      linarith

/-- The zero of the format. -/
theorem isFp_zero (f : Format) : IsFp f 0 0 := by
  refine ⟨by positivity, ?_⟩
  have : unpack f 0 = .finite false 0 (f.emin - f.fracBits) := by cases f <;> rfl
  rw [this]; simp [FpValue.real]

/-- A rounded magnitude with its sign is the rounded value. -/
theorem roundsTo_of {f : Format} {rm : Rounding} {neg : Bool} {x : ℝ} {n : ℕ} {quantum : ℤ} {bits : ℕ} (hx : 0 < x)
    (hq : f.least ≤ quantum) (hn : (rm.dir neg).rounds (x / 2 ^ quantum) n)
    (hs : quantum = f.least ∨ (2 : ℝ) ^ (quantum + f.fracBits) ≤ x)
    (hb : IsFp f bits ((if neg then -1 else 1) * (n * 2 ^ quantum))) (hpar : bits % 2 = n % 2) :
    RoundsTo f rm ((if neg then -1 else 1) * x) bits := by
  have hy0 : (0 : ℝ) ≤ n * 2 ^ quantum := by positivity
  obtain ⟨y, hy⟩ : ∃ y : ℝ, y = n * 2 ^ quantum := ⟨_, rfl⟩
  have best : ∀ {b z}, IsFp f b z → (rm.dir neg).best n y x |z| :=
    fun h => by rw [hy]; exact rounds_best hq hn hs h
  rw [← hy] at hb hy0
  refine ⟨_, hb, ?_⟩
  have zeroB := best (isFp_zero f)
  cases rm with
  | nearest =>
    intro b z hz
    have hB : Dir.best .near n y x |z| := best hz
    have zeroB : Dir.best .near n y x |0| := zeroB
    simp only [Dir.best] at hB zeroB
    rw [abs_zero, zero_sub, abs_neg, abs_of_pos hx] at zeroB
    have main : ∀ sg w : ℝ, sg * sg = 1 → |sg| = 1 → w = sg * z →
        |sg * y - sg * x| ≤ |z - sg * x| ∧ (|sg * y - sg * x| = |z - sg * x| → z ≠ sg * y → bits % 2 = 0) := by
      intro sg w h1 h2 hw
      have e1 : |sg * y - sg * x| = |y - x| := by rw [← mul_sub, abs_mul, h2, one_mul]
      have e2 : |z - sg * x| = |w - x| := by
        have : z - sg * x = sg * (w - x) := by rw [hw]; linear_combination (-z) * h1
        rw [this, abs_mul, h2, one_mul]
      have e3 : |z| = |w| := by rw [hw, abs_mul, h2, one_mul]
      have e4 : z = sg * w := by rw [hw]; linear_combination (-z) * h1
      rw [e1, e2]
      rw [e3] at hB
      by_cases hw0 : 0 ≤ w
      · rw [abs_of_nonneg hw0] at hB
        refine ⟨hB.1, fun k1 k2 => ?_⟩
        rw [hpar]; refine hB.2 k1 (fun k3 => k2 ?_)
        rw [e4, k3]
      · have : x < |w - x| := by rw [abs_of_neg (by linarith)]; linarith
        exact ⟨by linarith [zeroB.1], fun k1 _ => by linarith [zeroB.1]⟩
    cases neg
    · simp only [Bool.false_eq_true, if_false]; exact main 1 (1 * z) (by norm_num) (by norm_num) rfl
    · simp only [if_true]; exact main (-1) (-1 * z) (by norm_num) (by norm_num) rfl
  | zero =>
    have zeroB : Dir.best .floor n y x |0| := zeroB
    have e1 : |(if neg = true then -1 else 1) * y| = y := by cases neg <;> simp [abs_of_nonneg hy0]
    have e2 : |(if neg = true then -1 else 1) * x| = x := by cases neg <;> simp [abs_of_pos hx]
    simp only
    rw [e1, e2]
    exact ⟨zeroB.1, fun b z hz k => (show Dir.best .floor n y x |z| from best hz).2 k⟩
  | up =>
    cases neg with
    | false =>
      have zeroB : Dir.best .ceil n y x |0| := zeroB
      simp only [Bool.false_eq_true, if_false, one_mul]
      refine ⟨zeroB.1, fun b z hz k => ?_⟩
      have := (show Dir.best .ceil n y x |z| from best hz).2
      rw [abs_of_nonneg (by linarith)] at this; exact this k
    | true =>
      have zeroB : Dir.best .floor n y x |0| := zeroB
      simp only [if_true]
      refine ⟨by linarith [zeroB.1], fun b z hz k => ?_⟩
      have := (show Dir.best .floor n y x |z| from best hz).2
      by_cases hz0 : 0 ≤ z
      · linarith
      · rw [abs_of_neg (by linarith)] at this; linarith [this (by linarith)]
  | down =>
    cases neg with
    | false =>
      have zeroB : Dir.best .floor n y x |0| := zeroB
      simp only [Bool.false_eq_true, if_false, one_mul]
      refine ⟨zeroB.1, fun b z hz k => ?_⟩
      have := (show Dir.best .floor n y x |z| from best hz).2
      by_cases hz0 : 0 ≤ z
      · rw [abs_of_nonneg hz0] at this; exact this k
      · linarith
    | true =>
      have zeroB : Dir.best .ceil n y x |0| := zeroB
      simp only [if_true]
      refine ⟨by linarith [zeroB.1], fun b z hz k => ?_⟩
      have := (show Dir.best .ceil n y x |z| from best hz).2
      rw [abs_of_neg (by linarith)] at this; linarith [this (by linarith)]

theorem le_log2_iff {n : ℕ} (hn : n ≠ 0) (t q : ℤ) : t ≤ q + Nat.log2 n ↔ (2 : ℝ) ^ t ≤ n * 2 ^ q := by
  have hq := two_zpow_pos q
  have h1 : (2 : ℝ) ^ (q + Nat.log2 n) ≤ n * 2 ^ q := by
    rw [zpow_add₀ (by norm_num), zpow_natCast, mul_comm]
    exact mul_le_mul_of_nonneg_right (by exact_mod_cast Nat.log2_self_le hn) hq.le
  have h2 : (n : ℝ) * 2 ^ q < 2 ^ (q + Nat.log2 n + 1) := by
    rw [add_assoc, zpow_add₀ (by norm_num), mul_comm]
    refine mul_lt_mul_of_pos_left ?_ hq
    rw [show ((Nat.log2 n : ℤ) + 1) = ((Nat.log2 n + 1 : ℕ) : ℤ) by push_cast; ring, zpow_natCast]
    exact_mod_cast Nat.lt_log2_self
  constructor
  · intro h; exact (zpow_le_zpow_right₀ (by norm_num) h).trans h1
  · intro h
    by_contra hc
    have : (2 : ℝ) ^ (q + Nat.log2 n + 1) ≤ 2 ^ t := zpow_le_zpow_right₀ (by norm_num) (by omega)
    linarith

theorem overflows_iff (f : Format) (rm : Rounding) (neg : Bool) (x : ℝ) (hx : 0 < x) :
    Overflows f rm ((if neg then -1 else 1) * x) ↔ (rm.dir neg).reaches f.fracBits x (f.emax + 1) := by
  have e0 : (2 : ℝ) ^ (f.emax + 1) = 2 ^ f.emax * 2 := by rw [zpow_add₀ (by norm_num), zpow_one]
  have e1 : (2 : ℝ) ^ (f.emax + 1 - 2 - f.fracBits) = 2 ^ f.emax * 2 ^ (-(f.fracBits : ℤ) - 1) := by
    rw [← zpow_add₀ (by norm_num)]; congr 1; ring
  have e2 : (2 : ℝ) ^ (f.emax - f.fracBits) = 2 ^ f.emax * (2 ^ f.fracBits)⁻¹ := by
    rw [zpow_sub₀ (by norm_num), zpow_natCast, div_eq_mul_inv]
  cases rm <;> cases neg <;>
    simp [Overflows, maxFinite, Rounding.dir, Dir.reaches, abs_of_pos hx, hx, not_lt.mpr hx.le, e0, e1, e2, mul_sub]

theorem tiny_iff (f : Format) (rm : Rounding) (neg : Bool) (x : ℝ) (hx : 0 < x) :
    Tiny f rm ((if neg then -1 else 1) * x) ↔ ¬ (rm.dir neg).reaches f.fracBits x f.emin := by
  have e1 : (2 : ℝ) ^ (f.emin - 2 - f.fracBits) = 2 ^ f.emin * 2 ^ (-(f.fracBits : ℤ) - 2) := by
    rw [← zpow_add₀ (by norm_num)]; congr 1; ring
  have e2 : (2 : ℝ) ^ (f.emin - 1 - f.fracBits) = 2 ^ f.emin * 2 ^ (-(f.fracBits : ℤ) - 1) := by
    rw [← zpow_add₀ (by norm_num)]; congr 1; ring
  cases rm <;> cases neg <;>
    simp [Tiny, Rounding.dir, Dir.reaches, abs_of_pos hx, hx, not_lt.mpr hx.le, e1, e2, mul_sub,
      lt_sub_iff_add_lt]

theorem isFp_infBits (f : Format) (neg : Bool) (z : ℝ) : ¬ IsFp f (infBits f neg) z := by
  rintro ⟨-, h⟩
  have : unpack f (infBits f neg) = .inf neg := by cases f <;> cases neg <;> decide
  rw [this] at h; cases h

theorem isFp_maxBits (f : Format) (neg : Bool) (z : ℝ) (h : IsFp f (maxBits f neg) z) : |z| < 2 ^ (f.emax + 1) := by
  obtain ⟨m, q, h1, -, h3, h4⟩ := isFp_abs h
  rw [h1]
  have h5 : (m : ℝ) < 2 ^ ((f.fracBits + 1 : ℕ) : ℤ) := by rw [zpow_natCast]; exact_mod_cast h4
  calc (m : ℝ) * 2 ^ q < 2 ^ ((f.fracBits + 1 : ℕ) : ℤ) * 2 ^ q := mul_lt_mul_of_pos_right h5 (two_zpow_pos q)
    _ = 2 ^ (q + f.fracBits + 1) := by rw [← zpow_add₀ (by norm_num)]; congr 1; push_cast; ring
    _ ≤ _ := zpow_le_zpow_right₀ (by norm_num) (by omega)

/-- No overflowing value is the value an overflow delivers. -/
theorem overflowBits_ne {f : Format} {rm : Rounding} {neg : Bool} {x : ℝ} (hx : 0 < x)
    (h : (rm.dir neg).reaches f.fracBits x (f.emax + 1)) :
    ¬ IsFp f (overflowBits f rm neg) ((if neg then -1 else 1) * x) := by
  have big : ∀ ng : Bool, (2 : ℝ) ^ (f.emax + 1) ≤ x → ¬ IsFp f (maxBits f ng) ((if neg then -1 else 1) * x) := by
    intro ng h1 h2
    have := isFp_maxBits f ng _ h2
    rw [abs_mul, abs_of_pos hx] at this
    cases neg <;> simp at this <;> linarith
  cases rm with
  | nearest => exact isFp_infBits f neg _
  | zero => exact big _ h
  | up =>
    cases neg with
    | true => exact big _ h
    | false => exact isFp_infBits f _ _
  | down =>
    cases neg with
    | false => exact big _ h
    | true => exact isFp_infBits f _ _

theorem overflowBits_sign (f : Format) (rm : Rounding) (neg : Bool) :
    2 ^ (f.width - 1) ≤ overflowBits f rm neg ↔ neg = true := by
  cases f <;> cases rm <;> cases neg <;> decide

/-- `roundTo` delivers the correctly rounded value of the magnitude with its sign (47_fpu_arith.md R360 to R367). -/
theorem roundTo_delivers {f : Format} {rm : Rounding} {neg : Bool} {mant : ℕ} {exp : ℤ} {tail : Bool} {x : ℝ}
    (hm : mant ≠ 0) (hx : Magnitude mant exp tail x) (ht : tail = true → f.fracBits < Nat.log2 mant) :
    Delivers f rm ((if neg then -1 else 1) * x) (roundTo f rm neg mant exp tail) := by
  obtain ⟨hp, he, hem, hw⟩ := f.facts
  set u := exp + Nat.log2 mant - f.fracBits with hu
  set q := max u (f.emin - f.fracBits) with hqd
  have hexp := two_zpow_pos exp
  have hlo : (2 : ℝ) ^ (u + f.fracBits) ≤ x := by
    have h1 : (2 : ℝ) ^ (u + f.fracBits) ≤ mant * 2 ^ exp := by
      rw [← le_log2_iff hm]; omega
    refine h1.trans ?_
    unfold Magnitude at hx
    cases tail
    · simp only [Bool.false_eq_true, if_false] at hx; exact hx.ge
    · simp only [if_true] at hx; exact hx.1.le
  have hhi : x < (2 : ℝ) ^ (u + f.fracBits + 1) := by
    have h1 : x < (mant + 1) * 2 ^ exp := by
      unfold Magnitude at hx
      cases tail
      · simp only [Bool.false_eq_true, if_false] at hx; rw [hx]; nlinarith
      · simp only [if_true] at hx; exact hx.2
    have h2 : ((mant + 1 : ℕ) : ℝ) * 2 ^ exp ≤ 2 ^ (u + f.fracBits + 1) := by
      have : mant + 1 ≤ 2 ^ (Nat.log2 mant + 1) := Nat.lt_log2_self
      have h3 : ((mant + 1 : ℕ) : ℝ) ≤ 2 ^ ((Nat.log2 mant + 1 : ℕ) : ℤ) := by
        rw [zpow_natCast]; exact_mod_cast this
      refine (mul_le_mul_of_nonneg_right h3 hexp.le).trans (le_of_eq ?_)
      rw [← zpow_add₀ (by norm_num)]; congr 1; push_cast; omega
    push_cast at h2
    linarith
  have hx0 : 0 < x := (two_zpow_pos _).trans_le hlo
  obtain ⟨r1, i1⟩ := roundAt_spec rm neg mant exp tail q x hx (fun h => by have := ht h; omega)
  obtain ⟨r2, -⟩ := roundAt_spec rm neg mant exp tail u x hx (fun h => by have := ht h; omega)
  obtain ⟨n, hn⟩ : ∃ n, n = (roundAt rm neg mant exp tail q).1 := ⟨_, rfl⟩
  obtain ⟨ix, hix⟩ : ∃ ix, ix = (roundAt rm neg mant exp tail q).2 := ⟨_, rfl⟩
  obtain ⟨nu, hnu⟩ : ∃ n, n = (roundAt rm neg mant exp tail u).1 := ⟨_, rfl⟩
  rw [← hn, ← hix] at i1
  rw [← hn] at r1
  rw [← hnu] at r2
  have hpow : ∀ k : ℕ, ((2 ^ k : ℕ) : ℝ) = (2 : ℝ) ^ (k : ℤ) := fun k => by push_cast; exact (zpow_natCast 2 k).symm
  have hql : f.least ≤ q := le_max_right _ _
  have hqu : u ≤ q := le_max_left _ _
  have hcase : q = u ∨ (q = f.least ∧ u < q) := by
    rcases le_total (f.emin - f.fracBits) u with h | h
    · exact .inl (max_eq_left h)
    · rcases h.lt_or_eq with h1 | h1
      · right; rw [hqd, max_eq_right h]; exact ⟨rfl, h1⟩
      · left; rw [hqd, ← h1]; simp
  have hn_le : n ≤ 2 ^ (f.fracBits + 1) := by
    apply Dir.rounds_le r1
    rw [div_le_iff₀ (two_zpow_pos q), hpow, ← zpow_add₀ (by norm_num)]
    refine hhi.le.trans (zpow_le_zpow_right₀ (by norm_num) ?_)
    push_cast; omega
  have hnu_ge : 2 ^ f.fracBits ≤ nu := by
    apply Dir.le_rounds r2
    rw [le_div_iff₀ (two_zpow_pos u), hpow, ← zpow_add₀ (by norm_num), add_comm]; exact hlo
  have hn_ge : q = u → 2 ^ f.fracBits ≤ n := by
    intro h
    apply Dir.le_rounds r1
    rw [h, le_div_iff₀ (two_zpow_pos u), hpow, ← zpow_add₀ (by norm_num), add_comm]; exact hlo
  have hs : q = f.least ∨ (2 : ℝ) ^ (q + f.fracBits) ≤ x := by
    rcases hcase with h | h
    · right; rw [h]; exact hlo
    · exact .inl h.1
  have hsub : q = f.least ∨ 2 ^ f.fracBits ≤ n := by
    rcases hcase with h | h
    · exact .inr (hn_ge h)
    · exact .inl h.1
  have hp2 : 0 < 2 ^ f.fracBits := by positivity
  have hover : (decide (n ≠ 0) && decide (f.emax < q + Nat.log2 n)) = true ↔
      (rm.dir neg).reaches f.fracBits x (f.emax + 1) := by
    rcases hcase with h | ⟨h1, h2⟩
    · have hn0 : n ≠ 0 := by have := hn_ge h; omega
      rw [h] at r1
      rw [← Dir.reaches_iff r1 hlo hhi, ← h, ← le_log2_iff hn0]
      simp [hn0]
    · have hxs : x < (2 : ℝ) ^ f.emin := by
        refine hhi.trans_le (zpow_le_zpow_right₀ (by norm_num) ?_)
        have : f.least = f.emin - f.fracBits := rfl
        omega
      have hemin : f.emin = 1 - f.emax := rfl
      refine iff_of_false ?_ ?_
      · simp only [Bool.and_eq_true, decide_eq_true_eq, not_and, not_lt]
        intro hn0
        by_contra hc
        have h3 := (le_log2_iff hn0 (f.emax + 1) q).mp (by omega)
        have h4 : (n : ℝ) * 2 ^ q ≤ 2 ^ (q + f.fracBits + 1) := by
          rw [add_assoc, zpow_add₀ (by norm_num), mul_comm]
          refine mul_le_mul_of_nonneg_left ?_ (two_zpow_pos q).le
          have : ((n : ℕ) : ℝ) ≤ ((2 ^ (f.fracBits + 1) : ℕ) : ℝ) := by exact_mod_cast hn_le
          rw [hpow] at this; push_cast at this; exact this
        have h5 : (2 : ℝ) ^ (q + f.fracBits + 1) < 2 ^ (f.emax + 1) := by
          refine zpow_lt_zpow_right₀ (by norm_num) ?_
          have : f.least = f.emin - f.fracBits := rfl
          omega
        linarith
      · have h6 : x < (2 : ℝ) ^ f.emax := hxs.trans_le (zpow_le_zpow_right₀ (by norm_num) (by omega))
        have h7 : (2 : ℝ) ^ (f.emax + 1) = 2 ^ f.emax * 2 := by rw [zpow_add₀ (by norm_num), zpow_one]
        have h8 : (2 : ℝ) ^ (f.emax + 1 - 2 - f.fracBits) ≤ 2 ^ f.emax := zpow_le_zpow_right₀ (by norm_num) (by omega)
        have h9 : (2 : ℝ) ^ (f.emax + 1 - 1 - f.fracBits) ≤ 2 ^ f.emax := zpow_le_zpow_right₀ (by norm_num) (by omega)
        have := two_zpow_pos f.emax
        cases rm.dir neg <;> simp only [Dir.reaches, not_le, not_lt] <;> linarith
  have hneg : (if neg = true then (-1 : ℝ) else 1) * x < 0 ↔ neg = true := by
    cases neg <;> simp [hx0, hx0.le]
  have hcause : roundTo f rm neg mant exp tail =
      if (decide (n ≠ 0) && decide (f.emax < q + Nat.log2 n)) = true then
        { bits := overflowBits f rm neg, cause := { o := true, i := true } }
      else
        { bits := signBits f neg + ((q - f.least).toNat * 2 ^ f.fracBits + n)
          cause := { u := ix && decide (u + Nat.log2 nu < f.emin), i := ix } } := by
    rw [hn, hix, hnu]; rfl
  by_cases ho : (decide (n ≠ 0) && decide (f.emax < q + Nat.log2 n)) = true
  · have hr := hover.mp ho
    rw [hcause, if_pos ho]
    constructor
    · simp only [true_iff]; exact (overflows_iff f rm neg x hx0).mpr hr
    · intro _ ng hng
      rw [hneg] at hng
      have : ng = neg := by cases ng <;> cases neg <;> simp_all
      rw [this]
    · intro h; cases h
    · rw [hneg]; exact overflowBits_sign f rm neg
    · simp only [Bool.true_eq_false, false_iff]; exact overflowBits_ne hx0 hr
    · simp only [Bool.false_eq_true, false_iff, not_and]
      intro h; exfalso
      rw [tiny_iff f rm neg x hx0] at h
      apply h
      -- an overflowing magnitude is not tiny
      have m1 : (2 : ℝ) ^ (f.emin + 1) ≤ 2 ^ f.emax := zpow_le_zpow_right₀ (by norm_num) (by unfold Format.emin; omega)
      have m2 : (2 : ℝ) ^ (f.emin + 1) = 2 ^ f.emin * 2 := by rw [zpow_add₀ (by norm_num), zpow_one]
      have m3 : (2 : ℝ) ^ (f.emax + 1) = 2 ^ f.emax * 2 := by rw [zpow_add₀ (by norm_num), zpow_one]
      have m4 : (2 : ℝ) ^ (f.emax + 1 - 2 - f.fracBits) ≤ 2 ^ f.emax := zpow_le_zpow_right₀ (by norm_num) (by omega)
      have m5 : (2 : ℝ) ^ (f.emax + 1 - 1 - f.fracBits) ≤ 2 ^ f.emax := zpow_le_zpow_right₀ (by norm_num) (by omega)
      have m6 := two_zpow_pos f.emin
      have m7 := two_zpow_pos (f.emin - 2 - f.fracBits)
      have m8 := two_zpow_pos (f.emin - 1 - f.fracBits)
      revert hr
      cases rm.dir neg <;> simp only [Dir.reaches] <;> intro hr <;> linarith
    · exact ⟨rfl, rfl, rfl⟩
  · have hr := fun k => ho (hover.mpr k)
    rw [hcause, if_neg ho]
    have hmax : n = 0 ∨ q + Nat.log2 n ≤ f.emax := by
      by_cases h0 : n = 0
      · exact .inl h0
      · right
        by_contra hc
        exact ho (by simp [h0]; omega)
    obtain ⟨hfp, hpar, hsg⟩ := unpack_encode f neg n q hql hn_le hsub hmax
    have hexact : IsFp f (signBits f neg + ((q - f.least).toNat * 2 ^ f.fracBits + n))
        ((if neg then -1 else 1) * x) ↔ x = n * 2 ^ q := by
      constructor
      · intro h
        have := hfp.2.symm.trans h.2
        simp only [Option.some.injEq] at this
        cases neg <;> simp at this <;> linarith
      · intro h; rw [h]; exact hfp
    constructor
    · simp only [Bool.false_eq_true, false_iff, overflows_iff f rm neg x hx0]; exact hr
    · intro h; cases h
    · intro _; exact roundsTo_of hx0 hql r1 hs hfp hpar
    · rw [hneg]; exact hsg
    · simp only
      rw [hexact]
      cases ix <;> simp at i1 ⊢
      · exact i1
      · exact i1
    · simp only [Bool.and_eq_true, decide_eq_true_eq]
      have hnu0 : nu ≠ 0 := by omega
      rw [tiny_iff f rm neg x hx0, ← Dir.reaches_iff r2 hlo hhi, ← le_log2_iff hnu0, not_le]
      exact and_comm
    · exact ⟨rfl, rfl, rfl⟩

/-! ### The operations -/

theorem scaled_real {neg : Bool} {mant : ℕ} {exp unit : ℤ} (h : unit ≤ exp) :
    (scaled neg mant exp unit : ℝ) * 2 ^ unit = (if neg then -1 else 1) * mant * 2 ^ exp := by
  unfold scaled
  have : (2 : ℝ) ^ exp = 2 ^ (exp - unit).toNat * 2 ^ unit := by
    rw [two_zpow_toNat (by omega), ← zpow_add₀ (by norm_num)]; congr 1; omega
  rw [this]
  cases neg <;> push_cast <;> simp <;> ring

theorem isqrtFrom_spec (n : ℕ) (bits acc : ℕ) (h1 : acc * acc ≤ n) (h2 : n < (acc + 2 ^ bits) * (acc + 2 ^ bits)) :
    isqrtFrom n bits acc * isqrtFrom n bits acc ≤ n ∧
      n < (isqrtFrom n bits acc + 1) * (isqrtFrom n bits acc + 1) := by
  induction bits generalizing acc with
  | zero => exact ⟨h1, by simpa [isqrtFrom] using h2⟩
  | succ b ih =>
    simp only [isqrtFrom]
    split
    · rename_i h
      refine ih _ h (by rw [pow_succ] at h2; convert h2 using 1; ring)
    · rename_i h
      exact ih _ h1 (not_le.mp h)

theorem isqrt_spec (n : ℕ) : isqrt n * isqrt n ≤ n ∧ n < (isqrt n + 1) * (isqrt n + 1) := by
  refine isqrtFrom_spec n _ 0 (by simp) ?_
  have h1 : n < 2 ^ (Nat.log2 n + 1) := Nat.lt_log2_self
  refine h1.trans_le ?_
  rw [Nat.zero_add, ← pow_add]
  exact Nat.pow_le_pow_right (by norm_num) (by omega)

theorem roundFinite_delivers (f : Format) (rm : Rounding) (neg : Bool) (mant : ℕ) (exp : ℤ) (x : ℝ)
    (hx : x = (if neg then -1 else 1) * (mant * 2 ^ exp)) :
    (x ≠ 0 → Delivers f rm x (roundFinite f rm neg mant exp)) ∧
    (x = 0 → ExactRule (signBits f neg) (roundFinite f rm neg mant exp)) := by
  have h2 := two_zpow_pos exp
  have h0 : x = 0 ↔ mant = 0 := by
    rw [hx]; cases neg <;> simp [h2.ne']
  constructor
  · intro h
    have hm : mant ≠ 0 := fun k => h (h0.mpr k)
    rw [roundFinite, if_neg hm, hx]
    exact roundTo_delivers hm (by simp [Magnitude]) (by simp)
  · intro h
    rw [roundFinite, if_pos (h0.mp h)]; exact ⟨rfl, rfl⟩

/-- A quotient with `2 ^ k` units of guard is the exact quotient rounded. -/
theorem roundQuotient_delivers (f : Format) (rm : Rounding) (neg : Bool) (ma : ℕ) (ea : ℤ) (mb : ℕ) (eb : ℤ)
    (ha : ma ≠ 0) (hb : mb ≠ 0) :
    Delivers f rm ((if neg then -1 else 1) * ((ma * 2 ^ ea) / (mb * 2 ^ eb))) (roundQuotient f rm neg ma ea mb eb) := by
  unfold roundQuotient
  simp only
  obtain ⟨k, hk⟩ : ∃ k, k = guardBits f + Nat.log2 mb := ⟨_, rfl⟩
  rw [← hk]
  have hlog : 2 ^ (f.fracBits + 2) ≤ ma * 2 ^ k / mb := by
    rw [Nat.le_div_iff_mul_le (by omega)]
    have h1 : mb < 2 ^ (Nat.log2 mb + 1) := Nat.lt_log2_self
    have h2 : 2 ^ k = 2 ^ (f.fracBits + 2) * 2 ^ (Nat.log2 mb + 1) := by
      rw [← pow_add, hk]; congr 1; unfold guardBits; omega
    calc 2 ^ (f.fracBits + 2) * mb ≤ 2 ^ (f.fracBits + 2) * 2 ^ (Nat.log2 mb + 1) := Nat.mul_le_mul_left _ h1.le
      _ = 1 * 2 ^ k := by rw [h2, one_mul]
      _ ≤ ma * 2 ^ k := Nat.mul_le_mul_right _ (by omega)
  have hpos : 0 < 2 ^ (f.fracBits + 2) := by positivity
  have hq0 : ma * 2 ^ k / mb ≠ 0 := by omega
  refine roundTo_delivers hq0 ?_ (fun _ => ?_)
  · have hbR : (0 : ℝ) < mb := by exact_mod_cast Nat.pos_of_ne_zero hb
    have hdm : mb * (ma * 2 ^ k / mb) + ma * 2 ^ k % mb = ma * 2 ^ k := Nat.div_add_mod _ _
    have hr : ma * 2 ^ k % mb < mb := Nat.mod_lt _ (by omega)
    have hdmR : (mb : ℝ) * (ma * 2 ^ k / mb : ℕ) + (ma * 2 ^ k % mb : ℕ) = ma * 2 ^ k := by exact_mod_cast hdm
    have hrR : ((ma * 2 ^ k % mb : ℕ) : ℝ) < mb := by exact_mod_cast hr
    obtain ⟨q, hq⟩ : ∃ q, q = ma * 2 ^ k / mb := ⟨_, rfl⟩
    obtain ⟨r, hr'⟩ : ∃ r, r = ma * 2 ^ k % mb := ⟨_, rfl⟩
    rw [← hq, ← hr'] at hdmR
    rw [← hr'] at hrR
    have hval : (ma : ℝ) * 2 ^ ea / (mb * 2 ^ eb) = (q + r / mb) * 2 ^ (ea - eb - k) := by
      have : (ma : ℝ) = (mb * q + r) / 2 ^ k := by rw [hdmR]; field_simp
      rw [this, zpow_sub₀ (by norm_num), zpow_sub₀ (by norm_num), zpow_natCast]
      field_simp
    rw [← hq, ← hr']
    have hu := two_zpow_pos (ea - eb - k)
    unfold Magnitude
    rw [hval]
    by_cases h : r = 0
    · simp [h]
    · rw [if_pos (by simpa using h)]
      have h3 : (0 : ℝ) < r / mb := by
        have : (0 : ℝ) < r := by exact_mod_cast Nat.pos_of_ne_zero h
        positivity
      have h4 : (r : ℝ) / mb < 1 := by rw [div_lt_one hbR]; exact hrR
      exact ⟨mul_lt_mul_of_pos_right (by linarith) hu, mul_lt_mul_of_pos_right (by linarith) hu⟩
  · have := (Nat.le_log2 hq0).mpr hlog
    omega

theorem roundRoot_delivers (f : Format) (rm : Rounding) (mant : ℕ) (exp : ℤ) (hm : mant ≠ 0) :
    Delivers f rm (√(mant * 2 ^ exp)) (roundRoot f rm mant exp) := by
  unfold roundRoot
  simp only
  obtain ⟨k, hk⟩ : ∃ k, k = 2 * guardBits f + (exp % 2).toNat := ⟨_, rfl⟩
  rw [← hk]
  obtain ⟨j, hj⟩ : ∃ j, j = (exp - k) / 2 := ⟨_, rfl⟩
  have hjk : exp = 2 * j + k := by omega
  rw [← hj]
  obtain ⟨hs1, hs2⟩ := isqrt_spec (mant * 2 ^ k)
  have hk2 : 2 ^ (2 * guardBits f) ≤ mant * 2 ^ k := by
    calc 2 ^ (2 * guardBits f) ≤ 2 ^ k := Nat.pow_le_pow_right (by norm_num) (by omega)
      _ = 1 * 2 ^ k := (one_mul _).symm
      _ ≤ _ := Nat.mul_le_mul_right _ (by omega)
  obtain ⟨r, hr⟩ : ∃ r, r = isqrt (mant * 2 ^ k) := ⟨_, rfl⟩
  rw [← hr] at hs1 hs2 ⊢
  have hrl : 2 ^ guardBits f ≤ r := by
    by_contra hc
    have h1 : r + 1 ≤ 2 ^ guardBits f := by omega
    have h2 : (r + 1) * (r + 1) ≤ 2 ^ guardBits f * 2 ^ guardBits f := Nat.mul_le_mul h1 h1
    rw [← pow_add, ← two_mul] at h2
    omega
  have hp : 0 < 2 ^ guardBits f := by positivity
  have hr0 : r ≠ 0 := by omega
  have hroot : √(mant * 2 ^ exp) = √(mant * 2 ^ k : ℕ) * 2 ^ j := by
    have : (mant : ℝ) * 2 ^ exp = ((mant * 2 ^ k : ℕ) : ℝ) * (2 ^ j) ^ 2 := by
      rw [hjk, zpow_add₀ (by norm_num), zpow_natCast, mul_comm 2 j, zpow_mul]
      push_cast
      rw [← zpow_natCast (2 ^ j : ℝ) 2, ← zpow_mul, ← zpow_mul]
      push_cast
      ring
    rw [this, Real.sqrt_mul (by positivity), Real.sqrt_sq (two_zpow_pos j).le]
  have := roundTo_delivers (f := f) (rm := rm) (neg := false) (mant := r) (exp := j)
    (tail := decide (r * r ≠ mant * 2 ^ k)) (x := √(mant * 2 ^ exp)) hr0 ?_ (fun _ => ?_)
  · simpa using this
  · have hu := two_zpow_pos j
    unfold Magnitude
    rw [hroot]
    by_cases h : r * r = mant * 2 ^ k
    · rw [if_neg (by simpa using h), ← h]; push_cast; rw [Real.sqrt_mul_self (by positivity)]
    · rw [if_pos (by simpa using h)]
      refine ⟨mul_lt_mul_of_pos_right ?_ hu, mul_lt_mul_of_pos_right ?_ hu⟩
      · rw [Real.lt_sqrt (by positivity)]
        have : r * r < mant * 2 ^ k := lt_of_le_of_ne hs1 h
        rw [pow_two]; exact_mod_cast this
      · rw [Real.sqrt_lt (by positivity) (by positivity), pow_two]
        exact_mod_cast hs2
  · have := (Nat.le_log2 hr0).mpr hrl
    unfold guardBits at this; omega

/-- `ToInt` (section 3, R389). -/
theorem toInt_spec (rm : Rounding) (n : ℕ) (a : FpValue) : IntegerRule rm n a (toInt rm n a) := by
  cases a with
  | nan p => exact ⟨rfl, rfl⟩
  | inf p => exact ⟨rfl, rfl⟩
  | finite neg mant exp =>
    have he := two_zpow_pos exp
    obtain ⟨r1, i1⟩ := roundAt_spec rm neg mant exp false 0 (mant * 2 ^ exp) (by simp [Magnitude]) (by simp)
    obtain ⟨q, hq⟩ : ∃ q, q = (roundAt rm neg mant exp false 0).1 := ⟨_, rfl⟩
    obtain ⟨ix, hix⟩ : ∃ q, q = (roundAt rm neg mant exp false 0).2 := ⟨_, rfl⟩
    rw [← hq] at r1
    rw [← hq, ← hix] at i1
    simp only [zpow_zero, div_one, mul_one] at r1 i1
    obtain ⟨X, hX⟩ : ∃ X : ℝ, X = mant * 2 ^ exp := ⟨_, rfl⟩
    have hX0 : 0 ≤ X := by rw [hX]; positivity
    rw [← hX] at r1 i1
    have hreal : (FpValue.finite neg mant exp).real = some ((if neg then -1 else 1) * X) := by
      simp only [FpValue.real, hX, mul_assoc]
    unfold IntegerRule
    rw [hreal]
    simp only
    refine ⟨if neg then -(q : ℤ) else q, ?_, ?_⟩
    · have hfl : (q : ℝ) ≤ X ∧ X < q + 1 → ⌊X⌋ = (q : ℤ) := fun h => Int.floor_eq_iff.mpr (by simpa using h)
      have hcl : (q : ℝ) - 1 < X ∧ X ≤ q → ⌈X⌉ = (q : ℤ) := fun h => Int.ceil_eq_iff.mpr (by simpa using h)
      cases rm with
      | nearest =>
        simp only [Rounding.dir, Dir.rounds] at r1
        simp only [RoundsToInt]
        have : |(if neg = true then (-1 : ℝ) else 1) * X - ((if neg = true then -(q : ℤ) else q : ℤ) : ℝ)| = |X - q| := by
          cases neg <;> simp
          rw [← abs_neg]; congr 1; ring
        rw [this]
        refine ⟨r1.1, fun h => ?_⟩
        have := r1.2 h
        have hev : Even (q : ℤ) := Int.even_iff.mpr (by omega)
        cases neg
        · exact hev
        · exact hev.neg
      | zero =>
        simp only [Rounding.dir, Dir.rounds] at r1
        simp only [RoundsToInt]
        cases neg
        · simp [hX0, hfl r1]
        · by_cases h0 : X = 0
          · have : q = 0 := by
              have := r1.1; rw [h0] at this; exact_mod_cast le_antisymm this (by positivity)
            simp [h0, this]
          · have : 0 < X := lt_of_le_of_ne hX0 (Ne.symm h0)
            simp only [if_true]
            rw [if_neg (by linarith), neg_one_mul, Int.ceil_neg, hfl r1]
      | up =>
        simp only [RoundsToInt]
        cases neg
        · simp only [Rounding.dir, Dir.rounds, Bool.false_eq_true, if_false] at r1
          simp [hcl r1]
        · simp only [Rounding.dir, Dir.rounds, if_true] at r1
          rw [if_pos rfl, if_pos rfl, neg_one_mul, Int.ceil_neg, hfl r1]
      | down =>
        simp only [RoundsToInt]
        cases neg
        · simp only [Rounding.dir, Dir.rounds, Bool.false_eq_true, if_false] at r1
          simp [hfl r1]
        · simp only [Rounding.dir, Dir.rounds, if_true] at r1
          rw [if_pos rfl, if_pos rfl, neg_one_mul, Int.floor_neg, hcl r1]
    · obtain ⟨r, hr⟩ : ∃ r : ℤ, r = if neg then -(q : ℤ) else q := ⟨_, rfl⟩
      have hti : toInt rm n (.finite neg mant exp) =
          if r < -2 ^ (n - 1) ∨ r > 2 ^ (n - 1) - 1 then invalidInt n
          else { bits := (r % 2 ^ n).toNat, cause := { i := ix } } := by
        rw [hr, hq, hix]; rfl
      have hxr : ((r : ℤ) : ℝ) = (if neg then -1 else 1) * X ↔ X = q := by
        rw [hr]; cases neg <;> simp [eq_comm]
      rw [← hr, hti]
      refine ⟨fun h => ?_, fun h1 h2 => ?_⟩
      · rw [if_pos h]; exact ⟨rfl, rfl⟩
      · rw [if_neg (by omega)]
        refine ⟨?_, fun h => ?_, fun h => ?_⟩
        · simp only
          have : (0 : ℤ) ≤ r % 2 ^ n := Int.emod_nonneg _ (by positivity)
          omega
        · rw [hxr] at h
          cases ix
          · rfl
          · exact absurd h (by simpa using i1)
        · rw [Ne, hxr] at h
          cases ix
          · exact absurd (by simpa using i1) h
          · rfl

theorem scaled_lt {na nb : Bool} {ma mb : ℕ} {ea eb : ℤ} :
    scaled na ma ea (min ea eb) < scaled nb mb eb (min ea eb) ↔
      (if na then -1 else 1) * (ma : ℝ) * 2 ^ ea < (if nb then -1 else 1) * mb * 2 ^ eb := by
  rw [← scaled_real (min_le_left ea eb), ← scaled_real (min_le_right ea eb),
    mul_lt_mul_iff_left₀ (two_zpow_pos _)]
  norm_cast

theorem scaled_eq {na nb : Bool} {ma mb : ℕ} {ea eb : ℤ} :
    scaled na ma ea (min ea eb) = scaled nb mb eb (min ea eb) ↔
      (if na then -1 else 1) * (ma : ℝ) * 2 ^ ea = (if nb then -1 else 1) * mb * 2 ^ eb := by
  rw [← scaled_real (min_le_left ea eb), ← scaled_real (min_le_right ea eb),
    mul_left_inj' (two_zpow_pos _).ne']
  norm_cast

/-- C.cond (R384). -/
theorem fpCompare_spec (cond : BitVec 4) (a b : FpValue) :
    CompareRule cond a b (fpCompare cond a b).2 (fpCompare cond a b).1 := by
  have nanNone : ∀ p, (FpValue.nan p).extended = none := fun _ => rfl
  have fin : ∀ n m e, (FpValue.finite n m e).extended = some (((if n then -1 else 1) * (m : ℝ) * 2 ^ e : ℝ) : EReal) :=
    fun n m e => rfl
  cases a with
  | nan p =>
    unfold CompareRule; rw [nanNone]
    cases b <;> cases p <;> simp [fpCompare, FpValue.isNaN, FpValue.isSNaN, fpLess, fpEqual, FpCause.invalidIf,
        FpCause.invalid, FpCause.none]
  | inf na =>
    cases b with
    | nan p =>
      unfold CompareRule; rw [nanNone]
      cases p <;> simp [FpValue.extended, fpCompare, FpValue.isNaN, FpValue.isSNaN, fpLess, fpEqual,
          FpCause.invalidIf, FpCause.invalid, FpCause.none]
    | inf nb =>
      unfold CompareRule
      cases na <;> cases nb <;> simp [FpValue.extended, fpCompare, FpValue.isNaN, FpValue.isSNaN, fpLess,
          fpEqual, FpCause.invalidIf, FpCause.none]
    | finite nb mb eb =>
      unfold CompareRule; rw [fin]
      cases na <;> simp [FpValue.extended, fpCompare, FpValue.isNaN, FpValue.isSNaN, fpLess, fpEqual,
          FpCause.invalidIf, FpCause.none]
  | finite na ma ea =>
    cases b with
    | nan p =>
      unfold CompareRule; rw [nanNone]
      cases p <;> simp [FpValue.extended, fpCompare, FpValue.isNaN, FpValue.isSNaN, fpLess, fpEqual,
          FpCause.invalidIf, FpCause.invalid, FpCause.none]
    | inf nb =>
      unfold CompareRule; rw [fin]
      cases nb <;> simp [FpValue.extended, fpCompare, FpValue.isNaN, FpValue.isSNaN, fpLess, fpEqual,
          FpCause.invalidIf, FpCause.none]
    | finite nb mb eb =>
      unfold CompareRule; rw [fin, fin]
      simp only [fpCompare, FpValue.isNaN, FpValue.isSNaN, fpLess, fpEqual, FpCause.invalidIf, FpCause.none,
          EReal.coe_lt_coe_iff, EReal.coe_eq_coe_iff, ← scaled_lt, ← scaled_eq]
      simp

end Sys2Proof.Machine
end

