-- ==== Sys2Proof/Laws/Host.lean ====
section
/-! SUPPORT. The host operations and the turns of the machine: the mapping list, the breakpoint table, and exactly when
a step is FATAL. -/

namespace Sys2Proof.Machine

/-! ### The mapping list (20_memory.md R65 to R67) -/

theorem overlaps_comm (m n : Mapping) : m.overlaps n = n.overlaps m := by
  unfold Mapping.overlaps; exact Bool.and_comm _ _

theorem removeMapping_sublist (v : Word) (l : List Mapping) : (removeMapping v l).Sublist l := by
  induction l with
  | nil => exact .slnil
  | cons m ms ih =>
    simp only [removeMapping]; split
    · exact List.sublist_cons_self ..
    · exact ih.cons_cons m

theorem maps_append {l : List Mapping} {m : Mapping}
    (h : (∀ n ∈ l, n.valid = true) ∧ l.Pairwise (fun a b => a.overlaps b = false))
    (hv : m.valid = true) (ho : l.any m.overlaps = false) :
    (∀ n ∈ l ++ [m], n.valid = true) ∧ (l ++ [m]).Pairwise (fun a b => a.overlaps b = false) := by
  refine ⟨fun n hn => ?_, ?_⟩
  · rcases List.mem_append.mp hn with h1 | h1
    · exact h.1 n h1
    · rw [List.mem_singleton.mp h1]; exact hv
  · rw [List.pairwise_append]
    refine ⟨h.2, by simp, fun a ha b hb => ?_⟩
    rw [List.mem_singleton.mp hb, overlaps_comm]
    simpa using List.any_eq_false.mp ho a ha

/-! ### The breakpoint table (40_controller.md R167) -/

theorem mem_bpInsert (a : Nat) (l : List Nat) (c : Nat) : c ∈ bpInsert a l ↔ c = a ∨ c ∈ l := by
  induction l with
  | nil => simp [bpInsert]
  | cons b bs ih =>
    simp only [bpInsert]; split
    · simp
    · split
      · rename_i h; subst h; simp
      · simp only [List.mem_cons, ih]; tauto

theorem bpInsert_ok {l : List Nat} {a n : Nat} (ha : a < n) (h : l.Pairwise (· < ·) ∧ ∀ b ∈ l, b < n) :
    (bpInsert a l).Pairwise (· < ·) ∧ ∀ b ∈ bpInsert a l, b < n := by
  refine ⟨?_, fun b hb => ?_⟩
  · obtain ⟨h, -⟩ := h
    induction l with
    | nil => simp [bpInsert]
    | cons b bs ih =>
      rw [List.pairwise_cons] at h
      simp only [bpInsert]; split
      · rename_i hab
        rw [List.pairwise_cons]
        refine ⟨fun c hc => ?_, List.pairwise_cons.mpr h⟩
        rcases List.mem_cons.mp hc with h1 | h1
        · omega
        · have := h.1 c h1; omega
      · split
        · exact List.pairwise_cons.mpr h
        · rw [List.pairwise_cons]
          refine ⟨fun c hc => ?_, ih h.2⟩
          rcases (mem_bpInsert a bs c).mp hc with h1 | h1
          · omega
          · exact h.1 c h1
  · rcases (mem_bpInsert a l b).mp hb with h1 | h1
    · omega
    · exact h.2 b h1

/-! ### Trap entry and sequencing leave the rest alone -/

theorem trapEntry_keeps (code : BitVec 5) (ce : BitVec 2) (s : State) :
    (trapEntry code ce s).cpu.gpr = s.cpu.gpr ∧ (trapEntry code ce s).mem = s.mem ∧
      (trapEntry code ce s).ctl = s.ctl ∧ (trapEntry code ce s).agenda = s.agenda ∧
      (trapEntry code ce s).runCall = s.runCall ∧ (trapEntry code ce s).replies = s.replies := by
  unfold trapEntry
  split <;> refine ⟨?_, by simp, by simp, by simp, by simp, by simp⟩ <;> simp [State.setPc, State.setDelay, State.setCp0]

theorem sequence_gpr (out : Out) (s : State) : (sequence out s).cpu.gpr = s.cpu.gpr := by
  obtain ⟨_, _, h⟩ := sequence_cases out s; rw [h]; rfl

/-! ### The return of `run` (40_controller.md R156, R178) -/

/-- All that the return of `run` does. -/
theorem returnRun_spec (before : List HostReply) (s : State) :
    (s.ctl.runState = .running ∨ s.runCall = none → s.returnRun before = s) ∧
    (∀ r, s.ctl.runState ≠ .running → s.runCall = some r →
      s.returnRun before = { s with runCall := none, replies := before ++ [r] }) := by
  unfold State.returnRun
  refine ⟨fun h => ?_, fun r hn h => by simp [h, hn]⟩
  obtain ⟨cpu, ctl, mem, agenda, runCall, replies⟩ := s
  by_cases hr : ctl.runState = .running
  · cases runCall <;> simp [hr]
  · obtain rfl : runCall = none := h.resolve_left hr
    simp

@[simp] theorem State.returnRun_cpu (before : List HostReply) (s : State) : (s.returnRun before).cpu = s.cpu := rfl
@[simp] theorem State.returnRun_ctl (before : List HostReply) (s : State) : (s.returnRun before).ctl = s.ctl := rfl
@[simp] theorem State.returnRun_mem (before : List HostReply) (s : State) : (s.returnRun before).mem = s.mem := rfl
@[simp] theorem State.returnRun_agenda (before : List HostReply) (s : State) :
    (s.returnRun before).agenda = s.agenda := rfl

/-- After it a call of `run` is in progress only in Running. -/
@[simp] theorem State.returnRun_runCall (before : List HostReply) (s : State) :
    (s.returnRun before).runCall = if s.ctl.runState = .running then s.runCall else none := rfl

/-! ### FATAL (70_reset_and_hazards.md R444) -/

theorem exec_nofault (i : Instr) (s : State) (r : Fault) : exec i s ≠ .fault r := by
  intro he
  have h := exec_ends i s
  rw [he] at h
  generalize hr : Host.Outcome.fault r = x at h
  cases h <;> cases hr

theorem executeOne_nofault (w : Word) (s : State) (r : Fault) : executeOne w s ≠ .fault r := by
  unfold executeOne
  split
  · exact exec_nofault _ _ _
  · unfold execRejected
    split
    · intro h; cases h
    · unfold unimplementedCop1 checkCU1 fpFinish
      split
      · split <;> (intro h; cases h)
      · intro h; cases h

theorem cycle_fault (s : State) (r : Fault) : cycle s = .fault r ↔ s.ready = false := by
  unfold cycle
  cases r
  split
  · rename_i h; simp only [h, Bool.true_eq_false, iff_false]; exact executeOne_nofault _ _ _
  · rename_i h; simp [h]

theorem hostOp_fatal (op : HostOp) (s : State) : hostOp op s = .fatal ↔
    (s.ready = false ∧ (op = .run ∨ op = .step ∨ op = .setRunState .running)) ∨
      (s.mem.memReady = false ∧ op = .init) := by
  have hrun : ∀ answer, enterRun answer s = .fatal ↔ s.ready = false := by
    intro answer
    unfold enterRun; split
    · rename_i h; split <;> simp [h]
    · rename_i h; simp [h]
  cases op <;> simp [hostOp]
  case memInit => simp [hostMemInit]
  case init => unfold hostInitialize; split <;> simp_all
  case shutdown => simp [hostShutdown]
  case run => exact hrun _
  case pause => simp [hostPause]
  case stop => simp [hostStop]
  case step =>
    unfold hostStep; split
    · rename_i h; split <;> simp [h]
    · rename_i h; simp [h]
  case setRunState r =>
    cases r <;> simp [hostSetRunState]
    exact hrun _
  case setExecMode => simp [hostSetExecMode]
  all_goals try simp [hostRead, hostWrite]
  case map => unfold hostMap; split <;> simp
  case unmap => unfold hostUnmap; split <;> simp
  case loadRom => unfold hostLoadRom; dsimp only; split <;> simp
  case memResetStatistics => simp [hostMemResetStatistics]
  case setBreakpoint => unfold hostSetBreakpoint; split <;> simp
  case clearBreakpoint => unfold hostClearBreakpoint; split <;> simp
  case resetStatistics => simp [hostResetStatistics]
  case readCp0 => unfold hostReadCp0; split <;> simp
  case writeCp0 => unfold hostWriteCp0; split <;> simp
  case readCp1 => unfold hostReadCp1; split <;> simp
  case writeCp1 => unfold hostWriteCp1; split <;> simp
  case raiseException => unfold hostRaiseException; split <;> simp
  case handleException => unfold hostHandleException; split <;> simp

end Sys2Proof.Machine
end

