-- ==== Sys2Proof/Laws/Operands.lean ====
section
/-! SUPPORT. The operand forms as arithmetic. -/

namespace Sys2Proof.Machine

theorem sext_eq_ofInt (imm : BitVec 16) : sext imm = BitVec.ofInt 32 imm.toInt := by
  unfold sext
  apply BitVec.eq_of_toInt_eq
  rw [BitVec.toInt_signExtend_of_le (by omega), BitVec.toInt_ofInt]
  have := imm.toInt_lt
  have := imm.le_toInt
  unfold Int.bmod
  simp at *
  split <;> omega

theorem toInt_sext (imm : BitVec 16) : (sext imm).toInt = imm.toInt :=
  BitVec.toInt_signExtend_of_le (by omega)

theorem zext_eq_ofNat (imm : BitVec 16) : zext imm = BitVec.ofNat 32 imm.toNat := by
  apply BitVec.eq_of_toNat_eq; simp [zext]

theorem effectiveAddress_eq (s : State) (base : Reg) (offset : BitVec 16) :
    effectiveAddress s base offset = addressAt s base offset := by
  unfold effectiveAddress addressAt; rw [sext_eq_ofInt]

theorem branchTarget_eq (s : State) (offset : BitVec 16) : branchTarget s offset = targetAt s offset := by
  unfold branchTarget targetAt
  congr 1
  apply BitVec.eq_of_toInt_eq
  have h1 := offset.toInt_lt
  have h2 := offset.le_toInt
  rw [BitVec.toInt_signExtend_of_le (by omega), BitVec.toInt_ofInt]
  have e : (offset ++ 0#2).toInt = 4 * offset.toInt := by
    have hn : (offset ++ 0#2).toNat = offset.toNat * 4 := by
      rw [BitVec.toNat_append]; simp [Nat.shiftLeft_eq]
    rw [BitVec.toInt_eq_toNat_cond, BitVec.toInt_eq_toNat_cond, hn]
    split <;> split <;> omega
  rw [e]
  unfold Int.bmod
  simp at *
  split <;> omega

/-! ### Partial words (44_loadstore.md R292, R293) -/

theorem getLsbD_mergeLeft (k : Nat) (m r : Word) (i : Nat) (hk : k < 4) (hi : i < 32) :
    (mergeLeft k m r).getLsbD i = if i < 8 * k then r.getLsbD i else m.getLsbD (i - 8 * k) := by
  simp only [mergeLeft, BitVec.getLsbD_or, BitVec.getLsbD_and, BitVec.getLsbD_not, BitVec.getLsbD_shiftLeft,
    BitVec.getLsbD_allOnes]
  by_cases h : i < 8 * k
  · simp [h, hi]
  · simp [h, hi, show i - 8 * k < 32 by omega]

theorem getLsbD_mergeRight (k : Nat) (m r : Word) (i : Nat) (hk : k < 4) (hi : i < 32) :
    (mergeRight k m r).getLsbD i = if i < 8 * k + 8 then m.getLsbD (i + (24 - 8 * k)) else r.getLsbD i := by
  simp only [mergeRight, BitVec.getLsbD_or, BitVec.getLsbD_and, BitVec.getLsbD_ushiftRight, BitVec.getLsbD_shiftLeft,
    BitVec.getLsbD_allOnes]
  by_cases h : i < 8 * k + 8
  · rw [if_pos h, Nat.add_comm i]; simp [h, hi]
  · rw [BitVec.getLsbD_of_ge m (24 - 8 * k + i) (by omega)]
    simp [h, hi, show i - (8 * k + 8) < 32 by omega]

end Sys2Proof.Machine
end

