-- ==== Sys2Proof/Laws/PerInstr.lean ====
section
/-! SUPPORT. Per instruction: its encoding has the fixed bits of its row of the opcode table. -/

namespace Sys2Proof.Laws

/-- The encoding of the instruction, under the mask of its row, is the row's pattern (30_encoding.md R119). -/
def FitsRow.Statement (i : Instr) : Prop := encode i &&& i.mask = i.pattern

theorem FitsRow.add (rd rs rt : Reg) : FitsRow.Statement (.add rd rs rt) :=
  show _ &&& 0xFC00003F#32 = 0x00000020#32 from
    encodeR_fits (by decide) (free _) (free _) (free _) (free _) (by decide)
theorem FitsRow.addu (rd rs rt : Reg) : FitsRow.Statement (.addu rd rs rt) :=
  show _ &&& 0xFC00003F#32 = 0x00000021#32 from
    encodeR_fits (by decide) (free _) (free _) (free _) (free _) (by decide)
theorem FitsRow.sub (rd rs rt : Reg) : FitsRow.Statement (.sub rd rs rt) :=
  show _ &&& 0xFC00003F#32 = 0x00000022#32 from
    encodeR_fits (by decide) (free _) (free _) (free _) (free _) (by decide)
theorem FitsRow.subu (rd rs rt : Reg) : FitsRow.Statement (.subu rd rs rt) :=
  show _ &&& 0xFC00003F#32 = 0x00000023#32 from
    encodeR_fits (by decide) (free _) (free _) (free _) (free _) (by decide)
theorem FitsRow.and (rd rs rt : Reg) : FitsRow.Statement (.and rd rs rt) :=
  show _ &&& 0xFC00003F#32 = 0x00000024#32 from
    encodeR_fits (by decide) (free _) (free _) (free _) (free _) (by decide)
theorem FitsRow.or (rd rs rt : Reg) : FitsRow.Statement (.or rd rs rt) :=
  show _ &&& 0xFC00003F#32 = 0x00000025#32 from
    encodeR_fits (by decide) (free _) (free _) (free _) (free _) (by decide)
theorem FitsRow.xor (rd rs rt : Reg) : FitsRow.Statement (.xor rd rs rt) :=
  show _ &&& 0xFC00003F#32 = 0x00000026#32 from
    encodeR_fits (by decide) (free _) (free _) (free _) (free _) (by decide)
theorem FitsRow.nor (rd rs rt : Reg) : FitsRow.Statement (.nor rd rs rt) :=
  show _ &&& 0xFC00003F#32 = 0x00000027#32 from
    encodeR_fits (by decide) (free _) (free _) (free _) (free _) (by decide)
theorem FitsRow.slt (rd rs rt : Reg) : FitsRow.Statement (.slt rd rs rt) :=
  show _ &&& 0xFC00003F#32 = 0x0000002A#32 from
    encodeR_fits (by decide) (free _) (free _) (free _) (free _) (by decide)
theorem FitsRow.sltu (rd rs rt : Reg) : FitsRow.Statement (.sltu rd rs rt) :=
  show _ &&& 0xFC00003F#32 = 0x0000002B#32 from
    encodeR_fits (by decide) (free _) (free _) (free _) (free _) (by decide)
theorem FitsRow.sll (rd rt : Reg) (sa : Nat) : FitsRow.Statement (.sll rd rt sa) :=
  show _ &&& 0xFC00003F#32 = 0x00000000#32 from
    encodeR_fits (by decide) (free _) (free _) (free _) (free _) (by decide)
theorem FitsRow.srl (rd rt : Reg) (sa : Nat) : FitsRow.Statement (.srl rd rt sa) :=
  show _ &&& 0xFC00003F#32 = 0x00000002#32 from
    encodeR_fits (by decide) (free _) (free _) (free _) (free _) (by decide)
theorem FitsRow.sra (rd rt : Reg) (sa : Nat) : FitsRow.Statement (.sra rd rt sa) :=
  show _ &&& 0xFC00003F#32 = 0x00000003#32 from
    encodeR_fits (by decide) (free _) (free _) (free _) (free _) (by decide)
theorem FitsRow.sllv (rd rt rs : Reg) : FitsRow.Statement (.sllv rd rt rs) :=
  show _ &&& 0xFC00003F#32 = 0x00000004#32 from
    encodeR_fits (by decide) (free _) (free _) (free _) (free _) (by decide)
theorem FitsRow.srlv (rd rt rs : Reg) : FitsRow.Statement (.srlv rd rt rs) :=
  show _ &&& 0xFC00003F#32 = 0x00000006#32 from
    encodeR_fits (by decide) (free _) (free _) (free _) (free _) (by decide)
theorem FitsRow.srav (rd rt rs : Reg) : FitsRow.Statement (.srav rd rt rs) :=
  show _ &&& 0xFC00003F#32 = 0x00000007#32 from
    encodeR_fits (by decide) (free _) (free _) (free _) (free _) (by decide)
theorem FitsRow.addi (rt rs : Reg) (imm : BitVec 16) : FitsRow.Statement (.addi rt rs imm) :=
  show _ &&& 0xFC000000#32 = 0x20000000#32 from
    encodeI_fits (by decide) (free _) (free _) (free _)
theorem FitsRow.addiu (rt rs : Reg) (imm : BitVec 16) : FitsRow.Statement (.addiu rt rs imm) :=
  show _ &&& 0xFC000000#32 = 0x24000000#32 from
    encodeI_fits (by decide) (free _) (free _) (free _)
theorem FitsRow.slti (rt rs : Reg) (imm : BitVec 16) : FitsRow.Statement (.slti rt rs imm) :=
  show _ &&& 0xFC000000#32 = 0x28000000#32 from
    encodeI_fits (by decide) (free _) (free _) (free _)
theorem FitsRow.sltiu (rt rs : Reg) (imm : BitVec 16) : FitsRow.Statement (.sltiu rt rs imm) :=
  show _ &&& 0xFC000000#32 = 0x2C000000#32 from
    encodeI_fits (by decide) (free _) (free _) (free _)
theorem FitsRow.andi (rt rs : Reg) (imm : BitVec 16) : FitsRow.Statement (.andi rt rs imm) :=
  show _ &&& 0xFC000000#32 = 0x30000000#32 from
    encodeI_fits (by decide) (free _) (free _) (free _)
theorem FitsRow.ori (rt rs : Reg) (imm : BitVec 16) : FitsRow.Statement (.ori rt rs imm) :=
  show _ &&& 0xFC000000#32 = 0x34000000#32 from
    encodeI_fits (by decide) (free _) (free _) (free _)
theorem FitsRow.xori (rt rs : Reg) (imm : BitVec 16) : FitsRow.Statement (.xori rt rs imm) :=
  show _ &&& 0xFC000000#32 = 0x38000000#32 from
    encodeI_fits (by decide) (free _) (free _) (free _)
theorem FitsRow.lui (rt : Reg) (imm : BitVec 16) : FitsRow.Statement (.lui rt imm) :=
  show _ &&& 0xFC000000#32 = 0x3C000000#32 from
    encodeI_fits (by decide) (free _) (free _) (free _)
theorem FitsRow.mult (rs rt : Reg) : FitsRow.Statement (.mult rs rt) :=
  show _ &&& 0xFC00003F#32 = 0x00000018#32 from
    encodeR_fits (by decide) (free _) (free _) (free _) (free _) (by decide)
theorem FitsRow.multu (rs rt : Reg) : FitsRow.Statement (.multu rs rt) :=
  show _ &&& 0xFC00003F#32 = 0x00000019#32 from
    encodeR_fits (by decide) (free _) (free _) (free _) (free _) (by decide)
theorem FitsRow.div (rs rt : Reg) : FitsRow.Statement (.div rs rt) :=
  show _ &&& 0xFC00003F#32 = 0x0000001A#32 from
    encodeR_fits (by decide) (free _) (free _) (free _) (free _) (by decide)
theorem FitsRow.divu (rs rt : Reg) : FitsRow.Statement (.divu rs rt) :=
  show _ &&& 0xFC00003F#32 = 0x0000001B#32 from
    encodeR_fits (by decide) (free _) (free _) (free _) (free _) (by decide)
theorem FitsRow.mfhi (rd : Reg) : FitsRow.Statement (.mfhi rd) :=
  show _ &&& 0xFC00003F#32 = 0x00000010#32 from
    encodeR_fits (by decide) (free _) (free _) (free _) (free _) (by decide)
theorem FitsRow.mthi (rs : Reg) : FitsRow.Statement (.mthi rs) :=
  show _ &&& 0xFC00003F#32 = 0x00000011#32 from
    encodeR_fits (by decide) (free _) (free _) (free _) (free _) (by decide)
theorem FitsRow.mflo (rd : Reg) : FitsRow.Statement (.mflo rd) :=
  show _ &&& 0xFC00003F#32 = 0x00000012#32 from
    encodeR_fits (by decide) (free _) (free _) (free _) (free _) (by decide)
theorem FitsRow.mtlo (rs : Reg) : FitsRow.Statement (.mtlo rs) :=
  show _ &&& 0xFC00003F#32 = 0x00000013#32 from
    encodeR_fits (by decide) (free _) (free _) (free _) (free _) (by decide)
theorem FitsRow.j (target : BitVec 26) : FitsRow.Statement (.j target) :=
  show _ &&& 0xFC000000#32 = 0x08000000#32 from
    encodeJ_fits (by decide) (free _)
theorem FitsRow.jal (target : BitVec 26) : FitsRow.Statement (.jal target) :=
  show _ &&& 0xFC000000#32 = 0x0C000000#32 from
    encodeJ_fits (by decide) (free _)
theorem FitsRow.jr (rs : Reg) : FitsRow.Statement (.jr rs) :=
  show _ &&& 0xFC00003F#32 = 0x00000008#32 from
    encodeR_fits (by decide) (free _) (free _) (free _) (free _) (by decide)
theorem FitsRow.jalr (rd rs : Reg) : FitsRow.Statement (.jalr rd rs) :=
  show _ &&& 0xFC00003F#32 = 0x00000009#32 from
    encodeR_fits (by decide) (free _) (free _) (free _) (free _) (by decide)
theorem FitsRow.beq (rs rt : Reg) (offset : BitVec 16) : FitsRow.Statement (.beq rs rt offset) :=
  show _ &&& 0xFC000000#32 = 0x10000000#32 from
    encodeI_fits (by decide) (free _) (free _) (free _)
theorem FitsRow.bne (rs rt : Reg) (offset : BitVec 16) : FitsRow.Statement (.bne rs rt offset) :=
  show _ &&& 0xFC000000#32 = 0x14000000#32 from
    encodeI_fits (by decide) (free _) (free _) (free _)
theorem FitsRow.blez (rs : Reg) (offset : BitVec 16) : FitsRow.Statement (.blez rs offset) :=
  show _ &&& 0xFC000000#32 = 0x18000000#32 from
    encodeI_fits (by decide) (free _) (free _) (free _)
theorem FitsRow.bgtz (rs : Reg) (offset : BitVec 16) : FitsRow.Statement (.bgtz rs offset) :=
  show _ &&& 0xFC000000#32 = 0x1C000000#32 from
    encodeI_fits (by decide) (free _) (free _) (free _)
theorem FitsRow.beql (rs rt : Reg) (offset : BitVec 16) : FitsRow.Statement (.beql rs rt offset) :=
  show _ &&& 0xFC000000#32 = 0x50000000#32 from
    encodeI_fits (by decide) (free _) (free _) (free _)
theorem FitsRow.bnel (rs rt : Reg) (offset : BitVec 16) : FitsRow.Statement (.bnel rs rt offset) :=
  show _ &&& 0xFC000000#32 = 0x54000000#32 from
    encodeI_fits (by decide) (free _) (free _) (free _)
theorem FitsRow.blezl (rs : Reg) (offset : BitVec 16) : FitsRow.Statement (.blezl rs offset) :=
  show _ &&& 0xFC000000#32 = 0x58000000#32 from
    encodeI_fits (by decide) (free _) (free _) (free _)
theorem FitsRow.bgtzl (rs : Reg) (offset : BitVec 16) : FitsRow.Statement (.bgtzl rs offset) :=
  show _ &&& 0xFC000000#32 = 0x5C000000#32 from
    encodeI_fits (by decide) (free _) (free _) (free _)
theorem FitsRow.bltz (rs : Reg) (offset : BitVec 16) : FitsRow.Statement (.bltz rs offset) :=
  show _ &&& 0xFC1F0000#32 = 0x04000000#32 from
    encodeI_fits (by decide) (free _) (by decide) (free _)
theorem FitsRow.bgez (rs : Reg) (offset : BitVec 16) : FitsRow.Statement (.bgez rs offset) :=
  show _ &&& 0xFC1F0000#32 = 0x04010000#32 from
    encodeI_fits (by decide) (free _) (by decide) (free _)
theorem FitsRow.bltzal (rs : Reg) (offset : BitVec 16) : FitsRow.Statement (.bltzal rs offset) :=
  show _ &&& 0xFC1F0000#32 = 0x04100000#32 from
    encodeI_fits (by decide) (free _) (by decide) (free _)
theorem FitsRow.bgezal (rs : Reg) (offset : BitVec 16) : FitsRow.Statement (.bgezal rs offset) :=
  show _ &&& 0xFC1F0000#32 = 0x04110000#32 from
    encodeI_fits (by decide) (free _) (by decide) (free _)
theorem FitsRow.bltzl (rs : Reg) (offset : BitVec 16) : FitsRow.Statement (.bltzl rs offset) :=
  show _ &&& 0xFC1F0000#32 = 0x04020000#32 from
    encodeI_fits (by decide) (free _) (by decide) (free _)
theorem FitsRow.bgezl (rs : Reg) (offset : BitVec 16) : FitsRow.Statement (.bgezl rs offset) :=
  show _ &&& 0xFC1F0000#32 = 0x04030000#32 from
    encodeI_fits (by decide) (free _) (by decide) (free _)
theorem FitsRow.bltzall (rs : Reg) (offset : BitVec 16) : FitsRow.Statement (.bltzall rs offset) :=
  show _ &&& 0xFC1F0000#32 = 0x04120000#32 from
    encodeI_fits (by decide) (free _) (by decide) (free _)
theorem FitsRow.bgezall (rs : Reg) (offset : BitVec 16) : FitsRow.Statement (.bgezall rs offset) :=
  show _ &&& 0xFC1F0000#32 = 0x04130000#32 from
    encodeI_fits (by decide) (free _) (by decide) (free _)
theorem FitsRow.lb (rt base : Reg) (offset : BitVec 16) : FitsRow.Statement (.lb rt base offset) :=
  show _ &&& 0xFC000000#32 = 0x80000000#32 from
    encodeI_fits (by decide) (free _) (free _) (free _)
theorem FitsRow.lbu (rt base : Reg) (offset : BitVec 16) : FitsRow.Statement (.lbu rt base offset) :=
  show _ &&& 0xFC000000#32 = 0x90000000#32 from
    encodeI_fits (by decide) (free _) (free _) (free _)
theorem FitsRow.lh (rt base : Reg) (offset : BitVec 16) : FitsRow.Statement (.lh rt base offset) :=
  show _ &&& 0xFC000000#32 = 0x84000000#32 from
    encodeI_fits (by decide) (free _) (free _) (free _)
theorem FitsRow.lhu (rt base : Reg) (offset : BitVec 16) : FitsRow.Statement (.lhu rt base offset) :=
  show _ &&& 0xFC000000#32 = 0x94000000#32 from
    encodeI_fits (by decide) (free _) (free _) (free _)
theorem FitsRow.lw (rt base : Reg) (offset : BitVec 16) : FitsRow.Statement (.lw rt base offset) :=
  show _ &&& 0xFC000000#32 = 0x8C000000#32 from
    encodeI_fits (by decide) (free _) (free _) (free _)
theorem FitsRow.sb (rt base : Reg) (offset : BitVec 16) : FitsRow.Statement (.sb rt base offset) :=
  show _ &&& 0xFC000000#32 = 0xA0000000#32 from
    encodeI_fits (by decide) (free _) (free _) (free _)
theorem FitsRow.sh (rt base : Reg) (offset : BitVec 16) : FitsRow.Statement (.sh rt base offset) :=
  show _ &&& 0xFC000000#32 = 0xA4000000#32 from
    encodeI_fits (by decide) (free _) (free _) (free _)
theorem FitsRow.sw (rt base : Reg) (offset : BitVec 16) : FitsRow.Statement (.sw rt base offset) :=
  show _ &&& 0xFC000000#32 = 0xAC000000#32 from
    encodeI_fits (by decide) (free _) (free _) (free _)
theorem FitsRow.swl (rt base : Reg) (offset : BitVec 16) : FitsRow.Statement (.swl rt base offset) :=
  show _ &&& 0xFC000000#32 = 0xA8000000#32 from
    encodeI_fits (by decide) (free _) (free _) (free _)
theorem FitsRow.swr (rt base : Reg) (offset : BitVec 16) : FitsRow.Statement (.swr rt base offset) :=
  show _ &&& 0xFC000000#32 = 0xB8000000#32 from
    encodeI_fits (by decide) (free _) (free _) (free _)
theorem FitsRow.lwl (rt base : Reg) (offset : BitVec 16) : FitsRow.Statement (.lwl rt base offset) :=
  show _ &&& 0xFC000000#32 = 0x88000000#32 from
    encodeI_fits (by decide) (free _) (free _) (free _)
theorem FitsRow.lwr (rt base : Reg) (offset : BitVec 16) : FitsRow.Statement (.lwr rt base offset) :=
  show _ &&& 0xFC000000#32 = 0x98000000#32 from
    encodeI_fits (by decide) (free _) (free _) (free _)
theorem FitsRow.ll (rt base : Reg) (offset : BitVec 16) : FitsRow.Statement (.ll rt base offset) :=
  show _ &&& 0xFC000000#32 = 0xC0000000#32 from
    encodeI_fits (by decide) (free _) (free _) (free _)
theorem FitsRow.sc (rt base : Reg) (offset : BitVec 16) : FitsRow.Statement (.sc rt base offset) :=
  show _ &&& 0xFC000000#32 = 0xE0000000#32 from
    encodeI_fits (by decide) (free _) (free _) (free _)
theorem FitsRow.sync (stype : Nat) : FitsRow.Statement (.sync stype) :=
  show _ &&& 0xFC00003F#32 = 0x0000000F#32 from
    encodeR_fits (by decide) (free _) (free _) (free _) (free _) (by decide)
theorem FitsRow.cache (op : Nat) (base : Reg) (offset : BitVec 16) : FitsRow.Statement (.cache op base offset) :=
  show _ &&& 0xFC000000#32 = 0xBC000000#32 from
    encodeI_fits (by decide) (free _) (free _) (free _)
theorem FitsRow.syscall (code : Nat) : FitsRow.Statement (.syscall code) :=
  show _ &&& 0xFC00003F#32 = 0x0000000C#32 from
    encodeCode_fits (by decide) (free _) (by decide)
theorem FitsRow.brk (code : Nat) : FitsRow.Statement (.brk code) :=
  show _ &&& 0xFC00003F#32 = 0x0000000D#32 from
    encodeCode_fits (by decide) (free _) (by decide)
theorem FitsRow.tge (rs rt : Reg) (code : Nat) : FitsRow.Statement (.tge rs rt code) :=
  show _ &&& 0xFC00003F#32 = 0x00000030#32 from
    encodeTrap_fits (by decide) (free _) (free _) (free _) (by decide)
theorem FitsRow.tgeu (rs rt : Reg) (code : Nat) : FitsRow.Statement (.tgeu rs rt code) :=
  show _ &&& 0xFC00003F#32 = 0x00000031#32 from
    encodeTrap_fits (by decide) (free _) (free _) (free _) (by decide)
theorem FitsRow.tlt (rs rt : Reg) (code : Nat) : FitsRow.Statement (.tlt rs rt code) :=
  show _ &&& 0xFC00003F#32 = 0x00000032#32 from
    encodeTrap_fits (by decide) (free _) (free _) (free _) (by decide)
theorem FitsRow.tltu (rs rt : Reg) (code : Nat) : FitsRow.Statement (.tltu rs rt code) :=
  show _ &&& 0xFC00003F#32 = 0x00000033#32 from
    encodeTrap_fits (by decide) (free _) (free _) (free _) (by decide)
theorem FitsRow.teq (rs rt : Reg) (code : Nat) : FitsRow.Statement (.teq rs rt code) :=
  show _ &&& 0xFC00003F#32 = 0x00000034#32 from
    encodeTrap_fits (by decide) (free _) (free _) (free _) (by decide)
theorem FitsRow.tne (rs rt : Reg) (code : Nat) : FitsRow.Statement (.tne rs rt code) :=
  show _ &&& 0xFC00003F#32 = 0x00000036#32 from
    encodeTrap_fits (by decide) (free _) (free _) (free _) (by decide)
theorem FitsRow.mfc0 (rt rd : Reg) : FitsRow.Statement (.mfc0 rt rd) :=
  show _ &&& 0xFFE00000#32 = 0x40000000#32 from
    encodeR_fits (by decide) (by decide) (free _) (free _) (free _) (free _)
theorem FitsRow.mtc0 (rt rd : Reg) : FitsRow.Statement (.mtc0 rt rd) :=
  show _ &&& 0xFFE00000#32 = 0x40800000#32 from
    encodeR_fits (by decide) (by decide) (free _) (free _) (free _) (free _)
theorem FitsRow.eret : FitsRow.Statement (.eret) :=
  show encode .eret &&& Instr.mask .eret = Instr.pattern .eret by decide
theorem FitsRow.tgei (rs : Reg) (imm : BitVec 16) : FitsRow.Statement (.tgei rs imm) :=
  show _ &&& 0xFC1F0000#32 = 0x04080000#32 from
    encodeI_fits (by decide) (free _) (by decide) (free _)
theorem FitsRow.tgeiu (rs : Reg) (imm : BitVec 16) : FitsRow.Statement (.tgeiu rs imm) :=
  show _ &&& 0xFC1F0000#32 = 0x04090000#32 from
    encodeI_fits (by decide) (free _) (by decide) (free _)
theorem FitsRow.tlti (rs : Reg) (imm : BitVec 16) : FitsRow.Statement (.tlti rs imm) :=
  show _ &&& 0xFC1F0000#32 = 0x040A0000#32 from
    encodeI_fits (by decide) (free _) (by decide) (free _)
theorem FitsRow.tltiu (rs : Reg) (imm : BitVec 16) : FitsRow.Statement (.tltiu rs imm) :=
  show _ &&& 0xFC1F0000#32 = 0x040B0000#32 from
    encodeI_fits (by decide) (free _) (by decide) (free _)
theorem FitsRow.teqi (rs : Reg) (imm : BitVec 16) : FitsRow.Statement (.teqi rs imm) :=
  show _ &&& 0xFC1F0000#32 = 0x040C0000#32 from
    encodeI_fits (by decide) (free _) (by decide) (free _)
theorem FitsRow.tnei (rs : Reg) (imm : BitVec 16) : FitsRow.Statement (.tnei rs imm) :=
  show _ &&& 0xFC1F0000#32 = 0x040E0000#32 from
    encodeI_fits (by decide) (free _) (by decide) (free _)
theorem FitsRow.tlbr : FitsRow.Statement (.tlbr) :=
  show encode .tlbr &&& Instr.mask .tlbr = Instr.pattern .tlbr by decide
theorem FitsRow.tlbwi : FitsRow.Statement (.tlbwi) :=
  show encode .tlbwi &&& Instr.mask .tlbwi = Instr.pattern .tlbwi by decide
theorem FitsRow.tlbwr : FitsRow.Statement (.tlbwr) :=
  show encode .tlbwr &&& Instr.mask .tlbwr = Instr.pattern .tlbwr by decide
theorem FitsRow.tlbp : FitsRow.Statement (.tlbp) :=
  show encode .tlbp &&& Instr.mask .tlbp = Instr.pattern .tlbp by decide
theorem FitsRow.daddi (rt rs : Reg) (imm : BitVec 16) : FitsRow.Statement (.daddi rt rs imm) :=
  show _ &&& 0xFC000000#32 = 0x60000000#32 from
    encodeI_fits (by decide) (free _) (free _) (free _)
theorem FitsRow.daddiu (rt rs : Reg) (imm : BitVec 16) : FitsRow.Statement (.daddiu rt rs imm) :=
  show _ &&& 0xFC000000#32 = 0x64000000#32 from
    encodeI_fits (by decide) (free _) (free _) (free _)
theorem FitsRow.ldl (rt base : Reg) (offset : BitVec 16) : FitsRow.Statement (.ldl rt base offset) :=
  show _ &&& 0xFC000000#32 = 0x68000000#32 from
    encodeI_fits (by decide) (free _) (free _) (free _)
theorem FitsRow.ldr (rt base : Reg) (offset : BitVec 16) : FitsRow.Statement (.ldr rt base offset) :=
  show _ &&& 0xFC000000#32 = 0x6C000000#32 from
    encodeI_fits (by decide) (free _) (free _) (free _)
theorem FitsRow.lwu (rt base : Reg) (offset : BitVec 16) : FitsRow.Statement (.lwu rt base offset) :=
  show _ &&& 0xFC000000#32 = 0x9C000000#32 from
    encodeI_fits (by decide) (free _) (free _) (free _)
theorem FitsRow.sdl (rt base : Reg) (offset : BitVec 16) : FitsRow.Statement (.sdl rt base offset) :=
  show _ &&& 0xFC000000#32 = 0xB0000000#32 from
    encodeI_fits (by decide) (free _) (free _) (free _)
theorem FitsRow.sdr (rt base : Reg) (offset : BitVec 16) : FitsRow.Statement (.sdr rt base offset) :=
  show _ &&& 0xFC000000#32 = 0xB4000000#32 from
    encodeI_fits (by decide) (free _) (free _) (free _)
theorem FitsRow.lld (rt base : Reg) (offset : BitVec 16) : FitsRow.Statement (.lld rt base offset) :=
  show _ &&& 0xFC000000#32 = 0xD0000000#32 from
    encodeI_fits (by decide) (free _) (free _) (free _)
theorem FitsRow.ld (rt base : Reg) (offset : BitVec 16) : FitsRow.Statement (.ld rt base offset) :=
  show _ &&& 0xFC000000#32 = 0xDC000000#32 from
    encodeI_fits (by decide) (free _) (free _) (free _)
theorem FitsRow.scd (rt base : Reg) (offset : BitVec 16) : FitsRow.Statement (.scd rt base offset) :=
  show _ &&& 0xFC000000#32 = 0xF0000000#32 from
    encodeI_fits (by decide) (free _) (free _) (free _)
theorem FitsRow.sd (rt base : Reg) (offset : BitVec 16) : FitsRow.Statement (.sd rt base offset) :=
  show _ &&& 0xFC000000#32 = 0xFC000000#32 from
    encodeI_fits (by decide) (free _) (free _) (free _)
theorem FitsRow.dsllv (rd rt rs : Reg) : FitsRow.Statement (.dsllv rd rt rs) :=
  show _ &&& 0xFC00003F#32 = 0x00000014#32 from
    encodeR_fits (by decide) (free _) (free _) (free _) (free _) (by decide)
theorem FitsRow.dsrlv (rd rt rs : Reg) : FitsRow.Statement (.dsrlv rd rt rs) :=
  show _ &&& 0xFC00003F#32 = 0x00000016#32 from
    encodeR_fits (by decide) (free _) (free _) (free _) (free _) (by decide)
theorem FitsRow.dsrav (rd rt rs : Reg) : FitsRow.Statement (.dsrav rd rt rs) :=
  show _ &&& 0xFC00003F#32 = 0x00000017#32 from
    encodeR_fits (by decide) (free _) (free _) (free _) (free _) (by decide)
theorem FitsRow.dadd (rd rs rt : Reg) : FitsRow.Statement (.dadd rd rs rt) :=
  show _ &&& 0xFC00003F#32 = 0x0000002C#32 from
    encodeR_fits (by decide) (free _) (free _) (free _) (free _) (by decide)
theorem FitsRow.daddu (rd rs rt : Reg) : FitsRow.Statement (.daddu rd rs rt) :=
  show _ &&& 0xFC00003F#32 = 0x0000002D#32 from
    encodeR_fits (by decide) (free _) (free _) (free _) (free _) (by decide)
theorem FitsRow.dsub (rd rs rt : Reg) : FitsRow.Statement (.dsub rd rs rt) :=
  show _ &&& 0xFC00003F#32 = 0x0000002E#32 from
    encodeR_fits (by decide) (free _) (free _) (free _) (free _) (by decide)
theorem FitsRow.dsubu (rd rs rt : Reg) : FitsRow.Statement (.dsubu rd rs rt) :=
  show _ &&& 0xFC00003F#32 = 0x0000002F#32 from
    encodeR_fits (by decide) (free _) (free _) (free _) (free _) (by decide)
theorem FitsRow.dmult (rs rt : Reg) : FitsRow.Statement (.dmult rs rt) :=
  show _ &&& 0xFC00003F#32 = 0x0000001C#32 from
    encodeR_fits (by decide) (free _) (free _) (free _) (free _) (by decide)
theorem FitsRow.dmultu (rs rt : Reg) : FitsRow.Statement (.dmultu rs rt) :=
  show _ &&& 0xFC00003F#32 = 0x0000001D#32 from
    encodeR_fits (by decide) (free _) (free _) (free _) (free _) (by decide)
theorem FitsRow.ddiv (rs rt : Reg) : FitsRow.Statement (.ddiv rs rt) :=
  show _ &&& 0xFC00003F#32 = 0x0000001E#32 from
    encodeR_fits (by decide) (free _) (free _) (free _) (free _) (by decide)
theorem FitsRow.ddivu (rs rt : Reg) : FitsRow.Statement (.ddivu rs rt) :=
  show _ &&& 0xFC00003F#32 = 0x0000001F#32 from
    encodeR_fits (by decide) (free _) (free _) (free _) (free _) (by decide)
theorem FitsRow.dsll (rd rt : Reg) (sa : Nat) : FitsRow.Statement (.dsll rd rt sa) :=
  show _ &&& 0xFC00003F#32 = 0x00000038#32 from
    encodeR_fits (by decide) (free _) (free _) (free _) (free _) (by decide)
theorem FitsRow.dsrl (rd rt : Reg) (sa : Nat) : FitsRow.Statement (.dsrl rd rt sa) :=
  show _ &&& 0xFC00003F#32 = 0x0000003A#32 from
    encodeR_fits (by decide) (free _) (free _) (free _) (free _) (by decide)
theorem FitsRow.dsra (rd rt : Reg) (sa : Nat) : FitsRow.Statement (.dsra rd rt sa) :=
  show _ &&& 0xFC00003F#32 = 0x0000003B#32 from
    encodeR_fits (by decide) (free _) (free _) (free _) (free _) (by decide)
theorem FitsRow.dsll32 (rd rt : Reg) (sa : Nat) : FitsRow.Statement (.dsll32 rd rt sa) :=
  show _ &&& 0xFC00003F#32 = 0x0000003C#32 from
    encodeR_fits (by decide) (free _) (free _) (free _) (free _) (by decide)
theorem FitsRow.dsrl32 (rd rt : Reg) (sa : Nat) : FitsRow.Statement (.dsrl32 rd rt sa) :=
  show _ &&& 0xFC00003F#32 = 0x0000003E#32 from
    encodeR_fits (by decide) (free _) (free _) (free _) (free _) (by decide)
theorem FitsRow.dsra32 (rd rt : Reg) (sa : Nat) : FitsRow.Statement (.dsra32 rd rt sa) :=
  show _ &&& 0xFC00003F#32 = 0x0000003F#32 from
    encodeR_fits (by decide) (free _) (free _) (free _) (free _) (by decide)
theorem FitsRow.dmfc0 (rt rd : Reg) : FitsRow.Statement (.dmfc0 rt rd) :=
  show _ &&& 0xFFE00000#32 = 0x40200000#32 from
    encodeR_fits (by decide) (by decide) (free _) (free _) (free _) (free _)
theorem FitsRow.dmtc0 (rt rd : Reg) : FitsRow.Statement (.dmtc0 rt rd) :=
  show _ &&& 0xFFE00000#32 = 0x40A00000#32 from
    encodeR_fits (by decide) (by decide) (free _) (free _) (free _) (free _)
theorem FitsRow.dmfc1 (rt fs : Reg) : FitsRow.Statement (.dmfc1 rt fs) :=
  show _ &&& 0xFFE00000#32 = 0x44200000#32 from
    encodeR_fits (by decide) (by decide) (free _) (free _) (free _) (free _)
theorem FitsRow.dmtc1 (rt fs : Reg) : FitsRow.Statement (.dmtc1 rt fs) :=
  show _ &&& 0xFFE00000#32 = 0x44A00000#32 from
    encodeR_fits (by decide) (by decide) (free _) (free _) (free _) (free _)
theorem FitsRow.cop2 (cofun : Nat) : FitsRow.Statement (.cop2 cofun) :=
  show _ &&& 0xFC000000#32 = 0x48000000#32 from
    encodeJ_fits (by decide) (free _)
theorem FitsRow.lwc2 (rt base : Reg) (offset : BitVec 16) : FitsRow.Statement (.lwc2 rt base offset) :=
  show _ &&& 0xFC000000#32 = 0xC8000000#32 from
    encodeI_fits (by decide) (free _) (free _) (free _)
theorem FitsRow.ldc2 (rt base : Reg) (offset : BitVec 16) : FitsRow.Statement (.ldc2 rt base offset) :=
  show _ &&& 0xFC000000#32 = 0xD8000000#32 from
    encodeI_fits (by decide) (free _) (free _) (free _)
theorem FitsRow.swc2 (rt base : Reg) (offset : BitVec 16) : FitsRow.Statement (.swc2 rt base offset) :=
  show _ &&& 0xFC000000#32 = 0xE8000000#32 from
    encodeI_fits (by decide) (free _) (free _) (free _)
theorem FitsRow.sdc2 (rt base : Reg) (offset : BitVec 16) : FitsRow.Statement (.sdc2 rt base offset) :=
  show _ &&& 0xFC000000#32 = 0xF8000000#32 from
    encodeI_fits (by decide) (free _) (free _) (free _)
theorem FitsRow.mfc1 (rt fs : Reg) : FitsRow.Statement (.mfc1 rt fs) :=
  show _ &&& 0xFFE00000#32 = 0x44000000#32 from
    encodeR_fits (by decide) (by decide) (free _) (free _) (free _) (free _)
theorem FitsRow.mtc1 (rt fs : Reg) : FitsRow.Statement (.mtc1 rt fs) :=
  show _ &&& 0xFFE00000#32 = 0x44800000#32 from
    encodeR_fits (by decide) (by decide) (free _) (free _) (free _) (free _)
theorem FitsRow.cfc1 (rt fs : Reg) : FitsRow.Statement (.cfc1 rt fs) :=
  show _ &&& 0xFFE00000#32 = 0x44400000#32 from
    encodeR_fits (by decide) (by decide) (free _) (free _) (free _) (free _)
theorem FitsRow.ctc1 (rt fs : Reg) : FitsRow.Statement (.ctc1 rt fs) :=
  show _ &&& 0xFFE00000#32 = 0x44C00000#32 from
    encodeR_fits (by decide) (by decide) (free _) (free _) (free _) (free _)
theorem FitsRow.lwc1 (ft base : Reg) (offset : BitVec 16) : FitsRow.Statement (.lwc1 ft base offset) :=
  show _ &&& 0xFC000000#32 = 0xC4000000#32 from
    encodeI_fits (by decide) (free _) (free _) (free _)
theorem FitsRow.swc1 (ft base : Reg) (offset : BitVec 16) : FitsRow.Statement (.swc1 ft base offset) :=
  show _ &&& 0xFC000000#32 = 0xE4000000#32 from
    encodeI_fits (by decide) (free _) (free _) (free _)
theorem FitsRow.ldc1 (ft base : Reg) (offset : BitVec 16) : FitsRow.Statement (.ldc1 ft base offset) :=
  show _ &&& 0xFC000000#32 = 0xD4000000#32 from
    encodeI_fits (by decide) (free _) (free _) (free _)
theorem FitsRow.sdc1 (ft base : Reg) (offset : BitVec 16) : FitsRow.Statement (.sdc1 ft base offset) :=
  show _ &&& 0xFC000000#32 = 0xF4000000#32 from
    encodeI_fits (by decide) (free _) (free _) (free _)
theorem FitsRow.bc1f (offset : BitVec 16) : FitsRow.Statement (.bc1f offset) :=
  show _ &&& 0xFFE30000#32 = 0x45000000#32 from
    encodeI_fits (by decide) (by decide) (by decide) (free _)
theorem FitsRow.bc1t (offset : BitVec 16) : FitsRow.Statement (.bc1t offset) :=
  show _ &&& 0xFFE30000#32 = 0x45010000#32 from
    encodeI_fits (by decide) (by decide) (by decide) (free _)
theorem FitsRow.bc1fl (offset : BitVec 16) : FitsRow.Statement (.bc1fl offset) :=
  show _ &&& 0xFFE30000#32 = 0x45020000#32 from
    encodeI_fits (by decide) (by decide) (by decide) (free _)
theorem FitsRow.bc1tl (offset : BitVec 16) : FitsRow.Statement (.bc1tl offset) :=
  show _ &&& 0xFFE30000#32 = 0x45030000#32 from
    encodeI_fits (by decide) (by decide) (by decide) (free _)
theorem FitsRow.addS (fd fs ft : Reg) : FitsRow.Statement (.addS fd fs ft) :=
  show _ &&& 0xFFE0003F#32 = 0x46000000#32 from
    encodeR_fits (by decide) (by decide) (free _) (free _) (free _) (by decide)
theorem FitsRow.subS (fd fs ft : Reg) : FitsRow.Statement (.subS fd fs ft) :=
  show _ &&& 0xFFE0003F#32 = 0x46000001#32 from
    encodeR_fits (by decide) (by decide) (free _) (free _) (free _) (by decide)
theorem FitsRow.mulS (fd fs ft : Reg) : FitsRow.Statement (.mulS fd fs ft) :=
  show _ &&& 0xFFE0003F#32 = 0x46000002#32 from
    encodeR_fits (by decide) (by decide) (free _) (free _) (free _) (by decide)
theorem FitsRow.divS (fd fs ft : Reg) : FitsRow.Statement (.divS fd fs ft) :=
  show _ &&& 0xFFE0003F#32 = 0x46000003#32 from
    encodeR_fits (by decide) (by decide) (free _) (free _) (free _) (by decide)
theorem FitsRow.sqrtS (fd fs : Reg) : FitsRow.Statement (.sqrtS fd fs) :=
  show _ &&& 0xFFE0003F#32 = 0x46000004#32 from
    encodeR_fits (by decide) (by decide) (free _) (free _) (free _) (by decide)
theorem FitsRow.absS (fd fs : Reg) : FitsRow.Statement (.absS fd fs) :=
  show _ &&& 0xFFE0003F#32 = 0x46000005#32 from
    encodeR_fits (by decide) (by decide) (free _) (free _) (free _) (by decide)
theorem FitsRow.movS (fd fs : Reg) : FitsRow.Statement (.movS fd fs) :=
  show _ &&& 0xFFE0003F#32 = 0x46000006#32 from
    encodeR_fits (by decide) (by decide) (free _) (free _) (free _) (by decide)
theorem FitsRow.negS (fd fs : Reg) : FitsRow.Statement (.negS fd fs) :=
  show _ &&& 0xFFE0003F#32 = 0x46000007#32 from
    encodeR_fits (by decide) (by decide) (free _) (free _) (free _) (by decide)
theorem FitsRow.roundLS (fd fs : Reg) : FitsRow.Statement (.roundLS fd fs) :=
  show _ &&& 0xFFE0003F#32 = 0x46000008#32 from
    encodeR_fits (by decide) (by decide) (free _) (free _) (free _) (by decide)
theorem FitsRow.truncLS (fd fs : Reg) : FitsRow.Statement (.truncLS fd fs) :=
  show _ &&& 0xFFE0003F#32 = 0x46000009#32 from
    encodeR_fits (by decide) (by decide) (free _) (free _) (free _) (by decide)
theorem FitsRow.ceilLS (fd fs : Reg) : FitsRow.Statement (.ceilLS fd fs) :=
  show _ &&& 0xFFE0003F#32 = 0x4600000A#32 from
    encodeR_fits (by decide) (by decide) (free _) (free _) (free _) (by decide)
theorem FitsRow.floorLS (fd fs : Reg) : FitsRow.Statement (.floorLS fd fs) :=
  show _ &&& 0xFFE0003F#32 = 0x4600000B#32 from
    encodeR_fits (by decide) (by decide) (free _) (free _) (free _) (by decide)
theorem FitsRow.roundWS (fd fs : Reg) : FitsRow.Statement (.roundWS fd fs) :=
  show _ &&& 0xFFE0003F#32 = 0x4600000C#32 from
    encodeR_fits (by decide) (by decide) (free _) (free _) (free _) (by decide)
theorem FitsRow.truncWS (fd fs : Reg) : FitsRow.Statement (.truncWS fd fs) :=
  show _ &&& 0xFFE0003F#32 = 0x4600000D#32 from
    encodeR_fits (by decide) (by decide) (free _) (free _) (free _) (by decide)
theorem FitsRow.ceilWS (fd fs : Reg) : FitsRow.Statement (.ceilWS fd fs) :=
  show _ &&& 0xFFE0003F#32 = 0x4600000E#32 from
    encodeR_fits (by decide) (by decide) (free _) (free _) (free _) (by decide)
theorem FitsRow.floorWS (fd fs : Reg) : FitsRow.Statement (.floorWS fd fs) :=
  show _ &&& 0xFFE0003F#32 = 0x4600000F#32 from
    encodeR_fits (by decide) (by decide) (free _) (free _) (free _) (by decide)
theorem FitsRow.cvtWS (fd fs : Reg) : FitsRow.Statement (.cvtWS fd fs) :=
  show _ &&& 0xFFE0003F#32 = 0x46000024#32 from
    encodeR_fits (by decide) (by decide) (free _) (free _) (free _) (by decide)
theorem FitsRow.cvtLS (fd fs : Reg) : FitsRow.Statement (.cvtLS fd fs) :=
  show _ &&& 0xFFE0003F#32 = 0x46000025#32 from
    encodeR_fits (by decide) (by decide) (free _) (free _) (free _) (by decide)
theorem FitsRow.addD (fd fs ft : Reg) : FitsRow.Statement (.addD fd fs ft) :=
  show _ &&& 0xFFE0003F#32 = 0x46200000#32 from
    encodeR_fits (by decide) (by decide) (free _) (free _) (free _) (by decide)
theorem FitsRow.subD (fd fs ft : Reg) : FitsRow.Statement (.subD fd fs ft) :=
  show _ &&& 0xFFE0003F#32 = 0x46200001#32 from
    encodeR_fits (by decide) (by decide) (free _) (free _) (free _) (by decide)
theorem FitsRow.mulD (fd fs ft : Reg) : FitsRow.Statement (.mulD fd fs ft) :=
  show _ &&& 0xFFE0003F#32 = 0x46200002#32 from
    encodeR_fits (by decide) (by decide) (free _) (free _) (free _) (by decide)
theorem FitsRow.divD (fd fs ft : Reg) : FitsRow.Statement (.divD fd fs ft) :=
  show _ &&& 0xFFE0003F#32 = 0x46200003#32 from
    encodeR_fits (by decide) (by decide) (free _) (free _) (free _) (by decide)
theorem FitsRow.sqrtD (fd fs : Reg) : FitsRow.Statement (.sqrtD fd fs) :=
  show _ &&& 0xFFE0003F#32 = 0x46200004#32 from
    encodeR_fits (by decide) (by decide) (free _) (free _) (free _) (by decide)
theorem FitsRow.absD (fd fs : Reg) : FitsRow.Statement (.absD fd fs) :=
  show _ &&& 0xFFE0003F#32 = 0x46200005#32 from
    encodeR_fits (by decide) (by decide) (free _) (free _) (free _) (by decide)
theorem FitsRow.movD (fd fs : Reg) : FitsRow.Statement (.movD fd fs) :=
  show _ &&& 0xFFE0003F#32 = 0x46200006#32 from
    encodeR_fits (by decide) (by decide) (free _) (free _) (free _) (by decide)
theorem FitsRow.negD (fd fs : Reg) : FitsRow.Statement (.negD fd fs) :=
  show _ &&& 0xFFE0003F#32 = 0x46200007#32 from
    encodeR_fits (by decide) (by decide) (free _) (free _) (free _) (by decide)
theorem FitsRow.roundLD (fd fs : Reg) : FitsRow.Statement (.roundLD fd fs) :=
  show _ &&& 0xFFE0003F#32 = 0x46200008#32 from
    encodeR_fits (by decide) (by decide) (free _) (free _) (free _) (by decide)
theorem FitsRow.truncLD (fd fs : Reg) : FitsRow.Statement (.truncLD fd fs) :=
  show _ &&& 0xFFE0003F#32 = 0x46200009#32 from
    encodeR_fits (by decide) (by decide) (free _) (free _) (free _) (by decide)
theorem FitsRow.ceilLD (fd fs : Reg) : FitsRow.Statement (.ceilLD fd fs) :=
  show _ &&& 0xFFE0003F#32 = 0x4620000A#32 from
    encodeR_fits (by decide) (by decide) (free _) (free _) (free _) (by decide)
theorem FitsRow.floorLD (fd fs : Reg) : FitsRow.Statement (.floorLD fd fs) :=
  show _ &&& 0xFFE0003F#32 = 0x4620000B#32 from
    encodeR_fits (by decide) (by decide) (free _) (free _) (free _) (by decide)
theorem FitsRow.roundWD (fd fs : Reg) : FitsRow.Statement (.roundWD fd fs) :=
  show _ &&& 0xFFE0003F#32 = 0x4620000C#32 from
    encodeR_fits (by decide) (by decide) (free _) (free _) (free _) (by decide)
theorem FitsRow.truncWD (fd fs : Reg) : FitsRow.Statement (.truncWD fd fs) :=
  show _ &&& 0xFFE0003F#32 = 0x4620000D#32 from
    encodeR_fits (by decide) (by decide) (free _) (free _) (free _) (by decide)
theorem FitsRow.ceilWD (fd fs : Reg) : FitsRow.Statement (.ceilWD fd fs) :=
  show _ &&& 0xFFE0003F#32 = 0x4620000E#32 from
    encodeR_fits (by decide) (by decide) (free _) (free _) (free _) (by decide)
theorem FitsRow.floorWD (fd fs : Reg) : FitsRow.Statement (.floorWD fd fs) :=
  show _ &&& 0xFFE0003F#32 = 0x4620000F#32 from
    encodeR_fits (by decide) (by decide) (free _) (free _) (free _) (by decide)
theorem FitsRow.cvtWD (fd fs : Reg) : FitsRow.Statement (.cvtWD fd fs) :=
  show _ &&& 0xFFE0003F#32 = 0x46200024#32 from
    encodeR_fits (by decide) (by decide) (free _) (free _) (free _) (by decide)
theorem FitsRow.cvtLD (fd fs : Reg) : FitsRow.Statement (.cvtLD fd fs) :=
  show _ &&& 0xFFE0003F#32 = 0x46200025#32 from
    encodeR_fits (by decide) (by decide) (free _) (free _) (free _) (by decide)
theorem FitsRow.cvtSD (fd fs : Reg) : FitsRow.Statement (.cvtSD fd fs) :=
  show _ &&& 0xFFE0003F#32 = 0x46200020#32 from
    encodeR_fits (by decide) (by decide) (free _) (free _) (free _) (by decide)
theorem FitsRow.cvtSW (fd fs : Reg) : FitsRow.Statement (.cvtSW fd fs) :=
  show _ &&& 0xFFE0003F#32 = 0x46800020#32 from
    encodeR_fits (by decide) (by decide) (free _) (free _) (free _) (by decide)
theorem FitsRow.cvtSL (fd fs : Reg) : FitsRow.Statement (.cvtSL fd fs) :=
  show _ &&& 0xFFE0003F#32 = 0x46A00020#32 from
    encodeR_fits (by decide) (by decide) (free _) (free _) (free _) (by decide)
theorem FitsRow.cvtDS (fd fs : Reg) : FitsRow.Statement (.cvtDS fd fs) :=
  show _ &&& 0xFFE0003F#32 = 0x46000021#32 from
    encodeR_fits (by decide) (by decide) (free _) (free _) (free _) (by decide)
theorem FitsRow.cvtDW (fd fs : Reg) : FitsRow.Statement (.cvtDW fd fs) :=
  show _ &&& 0xFFE0003F#32 = 0x46800021#32 from
    encodeR_fits (by decide) (by decide) (free _) (free _) (free _) (by decide)
theorem FitsRow.cvtDL (fd fs : Reg) : FitsRow.Statement (.cvtDL fd fs) :=
  show _ &&& 0xFFE0003F#32 = 0x46A00021#32 from
    encodeR_fits (by decide) (by decide) (free _) (free _) (free _) (by decide)
theorem FitsRow.cFS (fs ft : Reg) : FitsRow.Statement (.cFS fs ft) :=
  show _ &&& 0xFFE0003F#32 = 0x46000030#32 from
    encodeR_fits (by decide) (by decide) (free _) (free _) (free _) (by decide)
theorem FitsRow.cUnS (fs ft : Reg) : FitsRow.Statement (.cUnS fs ft) :=
  show _ &&& 0xFFE0003F#32 = 0x46000031#32 from
    encodeR_fits (by decide) (by decide) (free _) (free _) (free _) (by decide)
theorem FitsRow.cEqS (fs ft : Reg) : FitsRow.Statement (.cEqS fs ft) :=
  show _ &&& 0xFFE0003F#32 = 0x46000032#32 from
    encodeR_fits (by decide) (by decide) (free _) (free _) (free _) (by decide)
theorem FitsRow.cUeqS (fs ft : Reg) : FitsRow.Statement (.cUeqS fs ft) :=
  show _ &&& 0xFFE0003F#32 = 0x46000033#32 from
    encodeR_fits (by decide) (by decide) (free _) (free _) (free _) (by decide)
theorem FitsRow.cOltS (fs ft : Reg) : FitsRow.Statement (.cOltS fs ft) :=
  show _ &&& 0xFFE0003F#32 = 0x46000034#32 from
    encodeR_fits (by decide) (by decide) (free _) (free _) (free _) (by decide)
theorem FitsRow.cUltS (fs ft : Reg) : FitsRow.Statement (.cUltS fs ft) :=
  show _ &&& 0xFFE0003F#32 = 0x46000035#32 from
    encodeR_fits (by decide) (by decide) (free _) (free _) (free _) (by decide)
theorem FitsRow.cOleS (fs ft : Reg) : FitsRow.Statement (.cOleS fs ft) :=
  show _ &&& 0xFFE0003F#32 = 0x46000036#32 from
    encodeR_fits (by decide) (by decide) (free _) (free _) (free _) (by decide)
theorem FitsRow.cUleS (fs ft : Reg) : FitsRow.Statement (.cUleS fs ft) :=
  show _ &&& 0xFFE0003F#32 = 0x46000037#32 from
    encodeR_fits (by decide) (by decide) (free _) (free _) (free _) (by decide)
theorem FitsRow.cSfS (fs ft : Reg) : FitsRow.Statement (.cSfS fs ft) :=
  show _ &&& 0xFFE0003F#32 = 0x46000038#32 from
    encodeR_fits (by decide) (by decide) (free _) (free _) (free _) (by decide)
theorem FitsRow.cNgleS (fs ft : Reg) : FitsRow.Statement (.cNgleS fs ft) :=
  show _ &&& 0xFFE0003F#32 = 0x46000039#32 from
    encodeR_fits (by decide) (by decide) (free _) (free _) (free _) (by decide)
theorem FitsRow.cSeqS (fs ft : Reg) : FitsRow.Statement (.cSeqS fs ft) :=
  show _ &&& 0xFFE0003F#32 = 0x4600003A#32 from
    encodeR_fits (by decide) (by decide) (free _) (free _) (free _) (by decide)
theorem FitsRow.cNglS (fs ft : Reg) : FitsRow.Statement (.cNglS fs ft) :=
  show _ &&& 0xFFE0003F#32 = 0x4600003B#32 from
    encodeR_fits (by decide) (by decide) (free _) (free _) (free _) (by decide)
theorem FitsRow.cLtS (fs ft : Reg) : FitsRow.Statement (.cLtS fs ft) :=
  show _ &&& 0xFFE0003F#32 = 0x4600003C#32 from
    encodeR_fits (by decide) (by decide) (free _) (free _) (free _) (by decide)
theorem FitsRow.cNgeS (fs ft : Reg) : FitsRow.Statement (.cNgeS fs ft) :=
  show _ &&& 0xFFE0003F#32 = 0x4600003D#32 from
    encodeR_fits (by decide) (by decide) (free _) (free _) (free _) (by decide)
theorem FitsRow.cLeS (fs ft : Reg) : FitsRow.Statement (.cLeS fs ft) :=
  show _ &&& 0xFFE0003F#32 = 0x4600003E#32 from
    encodeR_fits (by decide) (by decide) (free _) (free _) (free _) (by decide)
theorem FitsRow.cNgtS (fs ft : Reg) : FitsRow.Statement (.cNgtS fs ft) :=
  show _ &&& 0xFFE0003F#32 = 0x4600003F#32 from
    encodeR_fits (by decide) (by decide) (free _) (free _) (free _) (by decide)
theorem FitsRow.cFD (fs ft : Reg) : FitsRow.Statement (.cFD fs ft) :=
  show _ &&& 0xFFE0003F#32 = 0x46200030#32 from
    encodeR_fits (by decide) (by decide) (free _) (free _) (free _) (by decide)
theorem FitsRow.cUnD (fs ft : Reg) : FitsRow.Statement (.cUnD fs ft) :=
  show _ &&& 0xFFE0003F#32 = 0x46200031#32 from
    encodeR_fits (by decide) (by decide) (free _) (free _) (free _) (by decide)
theorem FitsRow.cEqD (fs ft : Reg) : FitsRow.Statement (.cEqD fs ft) :=
  show _ &&& 0xFFE0003F#32 = 0x46200032#32 from
    encodeR_fits (by decide) (by decide) (free _) (free _) (free _) (by decide)
theorem FitsRow.cUeqD (fs ft : Reg) : FitsRow.Statement (.cUeqD fs ft) :=
  show _ &&& 0xFFE0003F#32 = 0x46200033#32 from
    encodeR_fits (by decide) (by decide) (free _) (free _) (free _) (by decide)
theorem FitsRow.cOltD (fs ft : Reg) : FitsRow.Statement (.cOltD fs ft) :=
  show _ &&& 0xFFE0003F#32 = 0x46200034#32 from
    encodeR_fits (by decide) (by decide) (free _) (free _) (free _) (by decide)
theorem FitsRow.cUltD (fs ft : Reg) : FitsRow.Statement (.cUltD fs ft) :=
  show _ &&& 0xFFE0003F#32 = 0x46200035#32 from
    encodeR_fits (by decide) (by decide) (free _) (free _) (free _) (by decide)
theorem FitsRow.cOleD (fs ft : Reg) : FitsRow.Statement (.cOleD fs ft) :=
  show _ &&& 0xFFE0003F#32 = 0x46200036#32 from
    encodeR_fits (by decide) (by decide) (free _) (free _) (free _) (by decide)
theorem FitsRow.cUleD (fs ft : Reg) : FitsRow.Statement (.cUleD fs ft) :=
  show _ &&& 0xFFE0003F#32 = 0x46200037#32 from
    encodeR_fits (by decide) (by decide) (free _) (free _) (free _) (by decide)
theorem FitsRow.cSfD (fs ft : Reg) : FitsRow.Statement (.cSfD fs ft) :=
  show _ &&& 0xFFE0003F#32 = 0x46200038#32 from
    encodeR_fits (by decide) (by decide) (free _) (free _) (free _) (by decide)
theorem FitsRow.cNgleD (fs ft : Reg) : FitsRow.Statement (.cNgleD fs ft) :=
  show _ &&& 0xFFE0003F#32 = 0x46200039#32 from
    encodeR_fits (by decide) (by decide) (free _) (free _) (free _) (by decide)
theorem FitsRow.cSeqD (fs ft : Reg) : FitsRow.Statement (.cSeqD fs ft) :=
  show _ &&& 0xFFE0003F#32 = 0x4620003A#32 from
    encodeR_fits (by decide) (by decide) (free _) (free _) (free _) (by decide)
theorem FitsRow.cNglD (fs ft : Reg) : FitsRow.Statement (.cNglD fs ft) :=
  show _ &&& 0xFFE0003F#32 = 0x4620003B#32 from
    encodeR_fits (by decide) (by decide) (free _) (free _) (free _) (by decide)
theorem FitsRow.cLtD (fs ft : Reg) : FitsRow.Statement (.cLtD fs ft) :=
  show _ &&& 0xFFE0003F#32 = 0x4620003C#32 from
    encodeR_fits (by decide) (by decide) (free _) (free _) (free _) (by decide)
theorem FitsRow.cNgeD (fs ft : Reg) : FitsRow.Statement (.cNgeD fs ft) :=
  show _ &&& 0xFFE0003F#32 = 0x4620003D#32 from
    encodeR_fits (by decide) (by decide) (free _) (free _) (free _) (by decide)
theorem FitsRow.cLeD (fs ft : Reg) : FitsRow.Statement (.cLeD fs ft) :=
  show _ &&& 0xFFE0003F#32 = 0x4620003E#32 from
    encodeR_fits (by decide) (by decide) (free _) (free _) (free _) (by decide)
theorem FitsRow.cNgtD (fs ft : Reg) : FitsRow.Statement (.cNgtD fs ft) :=
  show _ &&& 0xFFE0003F#32 = 0x4620003F#32 from
    encodeR_fits (by decide) (by decide) (free _) (free _) (free _) (by decide)

end Sys2Proof.Laws
end

