-- ==== Sys2Proof/Tests/Slice0.lean ====
section
/-! SUPPORT. Small tests: what WellFormed refuses, what each word decodes to, one step of each instruction, and a
witness for the hypotheses of each statement. Expected values come from spec/95_test_vectors.md, from the examples
of the rules, or from the encodings of spec/opcode_table.json. -/

namespace Sys2Proof.Tests

open Sys2Proof.Machine

/-! ### WellFormed: an ill-formed term for each check -/

theorem test_sa_of_six_bits_is_refused : (Instr.sll 3 2 32).wellFormed = false := by decide
theorem test_stype_of_six_bits_is_refused : (Instr.sync 32).wellFormed = false := by decide
theorem test_cache_op_of_six_bits_is_refused : (Instr.cache 32 2 0#16).wellFormed = false := by decide
theorem test_trap_code_of_eleven_bits_is_refused : (Instr.teq 1 2 1024).wellFormed = false := by decide
theorem test_code_of_21_bits_is_refused : (Instr.syscall 0x100000).wellFormed = false := by decide
theorem test_break_code_of_21_bits_is_refused : (Instr.brk 0x100000).wellFormed = false := by decide
theorem test_cofun_of_27_bits_is_refused : (Instr.cop2 0x4000000).wellFormed = false := by decide
theorem test_doubleword_sa_of_six_bits_is_refused : (Instr.dsra32 3 2 32).wellFormed = false := by decide
theorem test_largest_fields_are_well_formed :
    (Instr.sll 31 31 31).wellFormed = true ∧ (Instr.sync 31).wellFormed = true ∧
    (Instr.cache 31 31 0xFFFF#16).wellFormed = true ∧ (Instr.teq 31 31 1023).wellFormed = true ∧
    (Instr.syscall 0xFFFFF).wellFormed = true ∧ (Instr.brk 0xFFFFF).wellFormed = true ∧
    (Instr.cop2 0x3FFFFFF).wellFormed = true := by decide

/-! ### Decoding -/

/-- A row of spec/opcode_table.json (its mask and its fixed bits), a word of the row with distinct operands, and the
instruction the word stands for. -/
structure Row where
  mask : Word
  pattern : Word
  word : Word
  instr : Instr
  deriving DecidableEq, Repr

/-- The word has the fixed bits of its row, decodes to the instruction, and the instruction encodes to it. -/
def Row.right (r : Row) : Bool :=
  r.word &&& r.mask = r.pattern ∧ decode r.word = .ok r.instr ∧ encode r.instr = r.word ∧
    r.instr.wellFormed = true ∧ r.instr.mask = r.mask ∧ r.instr.pattern = r.pattern

/-- Integer ALU (41_alu.md), part 1. -/
def aluRows1 : List Row :=
  [ ⟨0xFC00003F, 0x00000020, 0x00221820, .add 3 1 2⟩,
    ⟨0xFC00003F, 0x00000021, 0x00221821, .addu 3 1 2⟩,
    ⟨0xFC00003F, 0x00000022, 0x00221822, .sub 3 1 2⟩,
    ⟨0xFC00003F, 0x00000023, 0x00221823, .subu 3 1 2⟩,
    ⟨0xFC00003F, 0x00000024, 0x00221824, .and 3 1 2⟩,
    ⟨0xFC00003F, 0x00000025, 0x00221825, .or 3 1 2⟩,
    ⟨0xFC00003F, 0x00000026, 0x00221826, .xor 3 1 2⟩,
    ⟨0xFC00003F, 0x00000027, 0x00221827, .nor 3 1 2⟩,
    ⟨0xFC00003F, 0x0000002A, 0x0022182A, .slt 3 1 2⟩,
    ⟨0xFC00003F, 0x0000002B, 0x0022182B, .sltu 3 1 2⟩,
    ⟨0xFC00003F, 0x00000000, 0x00021FC0, .sll 3 2 31⟩,
    ⟨0xFC00003F, 0x00000002, 0x00021FC2, .srl 3 2 31⟩,
    ⟨0xFC00003F, 0x00000003, 0x00021FC3, .sra 3 2 31⟩,
    ⟨0xFC00003F, 0x00000004, 0x00221804, .sllv 3 2 1⟩,
    ⟨0xFC00003F, 0x00000006, 0x00221806, .srlv 3 2 1⟩,
    ⟨0xFC00003F, 0x00000007, 0x00221807, .srav 3 2 1⟩ ]

theorem test_decode_alu_1 : aluRows1.all Row.right = true := by decide

/-- Integer ALU (41_alu.md), part 2. -/
def aluRows2 : List Row :=
  [ ⟨0xFC000000, 0x20000000, 0x20228001, .addi 2 1 0x8001#16⟩,
    ⟨0xFC000000, 0x24000000, 0x24228001, .addiu 2 1 0x8001#16⟩,
    ⟨0xFC000000, 0x28000000, 0x28228001, .slti 2 1 0x8001#16⟩,
    ⟨0xFC000000, 0x2C000000, 0x2C228001, .sltiu 2 1 0x8001#16⟩,
    ⟨0xFC000000, 0x30000000, 0x30228001, .andi 2 1 0x8001#16⟩,
    ⟨0xFC000000, 0x34000000, 0x34228001, .ori 2 1 0x8001#16⟩,
    ⟨0xFC000000, 0x38000000, 0x38228001, .xori 2 1 0x8001#16⟩,
    ⟨0xFC000000, 0x3C000000, 0x3C028001, .lui 2 0x8001#16⟩ ]

theorem test_decode_alu_2 : aluRows2.all Row.right = true := by decide

/-- Multiply, divide, HI and LO (42_muldiv.md), part 1. -/
def muldivRows1 : List Row :=
  [ ⟨0xFC00003F, 0x00000018, 0x00220018, .mult 1 2⟩,
    ⟨0xFC00003F, 0x00000019, 0x00220019, .multu 1 2⟩,
    ⟨0xFC00003F, 0x0000001A, 0x0022001A, .div 1 2⟩,
    ⟨0xFC00003F, 0x0000001B, 0x0022001B, .divu 1 2⟩,
    ⟨0xFC00003F, 0x00000010, 0x00001810, .mfhi 3⟩,
    ⟨0xFC00003F, 0x00000011, 0x00200011, .mthi 1⟩,
    ⟨0xFC00003F, 0x00000012, 0x00001812, .mflo 3⟩,
    ⟨0xFC00003F, 0x00000013, 0x00200013, .mtlo 1⟩ ]

theorem test_decode_muldiv_1 : muldivRows1.all Row.right = true := by decide

/-- Jumps and branches (43_branch.md), part 1. -/
def branchRows1 : List Row :=
  [ ⟨0xFC000000, 0x08000000, 0x0A000041, .j 0x2000041#26⟩,
    ⟨0xFC000000, 0x0C000000, 0x0E000041, .jal 0x2000041#26⟩,
    ⟨0xFC00003F, 0x00000008, 0x00200008, .jr 1⟩,
    ⟨0xFC00003F, 0x00000009, 0x00201809, .jalr 3 1⟩,
    ⟨0xFC000000, 0x10000000, 0x1022FFFC, .beq 1 2 0xFFFC#16⟩,
    ⟨0xFC000000, 0x14000000, 0x1422FFFC, .bne 1 2 0xFFFC#16⟩,
    ⟨0xFC000000, 0x18000000, 0x1820FFFC, .blez 1 0xFFFC#16⟩,
    ⟨0xFC000000, 0x1C000000, 0x1C20FFFC, .bgtz 1 0xFFFC#16⟩,
    ⟨0xFC000000, 0x50000000, 0x5022FFFC, .beql 1 2 0xFFFC#16⟩,
    ⟨0xFC000000, 0x54000000, 0x5422FFFC, .bnel 1 2 0xFFFC#16⟩,
    ⟨0xFC000000, 0x58000000, 0x5820FFFC, .blezl 1 0xFFFC#16⟩,
    ⟨0xFC000000, 0x5C000000, 0x5C20FFFC, .bgtzl 1 0xFFFC#16⟩,
    ⟨0xFC1F0000, 0x04000000, 0x0420FFFC, .bltz 1 0xFFFC#16⟩,
    ⟨0xFC1F0000, 0x04010000, 0x0421FFFC, .bgez 1 0xFFFC#16⟩,
    ⟨0xFC1F0000, 0x04100000, 0x0430FFFC, .bltzal 1 0xFFFC#16⟩,
    ⟨0xFC1F0000, 0x04110000, 0x0431FFFC, .bgezal 1 0xFFFC#16⟩ ]

theorem test_decode_branch_1 : branchRows1.all Row.right = true := by decide

/-- Jumps and branches (43_branch.md), part 2. -/
def branchRows2 : List Row :=
  [ ⟨0xFC1F0000, 0x04020000, 0x0422FFFC, .bltzl 1 0xFFFC#16⟩,
    ⟨0xFC1F0000, 0x04030000, 0x0423FFFC, .bgezl 1 0xFFFC#16⟩,
    ⟨0xFC1F0000, 0x04120000, 0x0432FFFC, .bltzall 1 0xFFFC#16⟩,
    ⟨0xFC1F0000, 0x04130000, 0x0433FFFC, .bgezall 1 0xFFFC#16⟩ ]

theorem test_decode_branch_2 : branchRows2.all Row.right = true := by decide

/-- Loads, stores and synchronisation (44_loadstore.md), part 1. -/
def loadstoreRows1 : List Row :=
  [ ⟨0xFC000000, 0x80000000, 0x8042FFFC, .lb 2 2 0xFFFC#16⟩,
    ⟨0xFC000000, 0x90000000, 0x9042FFFC, .lbu 2 2 0xFFFC#16⟩,
    ⟨0xFC000000, 0x84000000, 0x8442FFFC, .lh 2 2 0xFFFC#16⟩,
    ⟨0xFC000000, 0x94000000, 0x9442FFFC, .lhu 2 2 0xFFFC#16⟩,
    ⟨0xFC000000, 0x8C000000, 0x8C42FFFC, .lw 2 2 0xFFFC#16⟩,
    ⟨0xFC000000, 0xA0000000, 0xA042FFFC, .sb 2 2 0xFFFC#16⟩,
    ⟨0xFC000000, 0xA4000000, 0xA442FFFC, .sh 2 2 0xFFFC#16⟩,
    ⟨0xFC000000, 0xAC000000, 0xAC42FFFC, .sw 2 2 0xFFFC#16⟩,
    ⟨0xFC000000, 0xA8000000, 0xA842FFFC, .swl 2 2 0xFFFC#16⟩,
    ⟨0xFC000000, 0xB8000000, 0xB842FFFC, .swr 2 2 0xFFFC#16⟩,
    ⟨0xFC000000, 0x88000000, 0x8842FFFC, .lwl 2 2 0xFFFC#16⟩,
    ⟨0xFC000000, 0x98000000, 0x9842FFFC, .lwr 2 2 0xFFFC#16⟩,
    ⟨0xFC000000, 0xC0000000, 0xC042FFFC, .ll 2 2 0xFFFC#16⟩,
    ⟨0xFC000000, 0xE0000000, 0xE042FFFC, .sc 2 2 0xFFFC#16⟩,
    ⟨0xFC00003F, 0x0000000F, 0x000000CF, .sync 3⟩,
    ⟨0xFC000000, 0xBC000000, 0xBC55FFFC, .cache 21 2 0xFFFC#16⟩ ]

theorem test_decode_loadstore_1 : loadstoreRows1.all Row.right = true := by decide

/-- System, trap and CP0 (45_system.md), part 1. -/
def systemRows1 : List Row :=
  [ ⟨0xFC00003F, 0x0000000C, 0x0048D14C, .syscall 0x12345⟩,
    ⟨0xFC00003F, 0x0000000D, 0x0048D14D, .brk 0x12345⟩,
    ⟨0xFC00003F, 0x00000030, 0x0022AAF0, .tge 1 2 0x2AB⟩,
    ⟨0xFC00003F, 0x00000031, 0x0022AAF1, .tgeu 1 2 0x2AB⟩,
    ⟨0xFC00003F, 0x00000032, 0x0022AAF2, .tlt 1 2 0x2AB⟩,
    ⟨0xFC00003F, 0x00000033, 0x0022AAF3, .tltu 1 2 0x2AB⟩,
    ⟨0xFC00003F, 0x00000034, 0x0022AAF4, .teq 1 2 0x2AB⟩,
    ⟨0xFC00003F, 0x00000036, 0x0022AAF6, .tne 1 2 0x2AB⟩,
    ⟨0xFFE00000, 0x40000000, 0x40021800, .mfc0 2 3⟩,
    ⟨0xFFE00000, 0x40800000, 0x40821800, .mtc0 2 3⟩,
    ⟨0xFE00003F, 0x42000018, 0x42000018, .eret⟩,
    ⟨0xFC1F0000, 0x04080000, 0x04288001, .tgei 1 0x8001#16⟩,
    ⟨0xFC1F0000, 0x04090000, 0x04298001, .tgeiu 1 0x8001#16⟩,
    ⟨0xFC1F0000, 0x040A0000, 0x042A8001, .tlti 1 0x8001#16⟩,
    ⟨0xFC1F0000, 0x040B0000, 0x042B8001, .tltiu 1 0x8001#16⟩,
    ⟨0xFC1F0000, 0x040C0000, 0x042C8001, .teqi 1 0x8001#16⟩ ]

theorem test_decode_system_1 : systemRows1.all Row.right = true := by decide

/-- System, trap and CP0 (45_system.md), part 2. -/
def systemRows2 : List Row :=
  [ ⟨0xFC1F0000, 0x040E0000, 0x042E8001, .tnei 1 0x8001#16⟩,
    ⟨0xFE00003F, 0x42000001, 0x42000001, .tlbr⟩,
    ⟨0xFE00003F, 0x42000002, 0x42000002, .tlbwi⟩,
    ⟨0xFE00003F, 0x42000006, 0x42000006, .tlbwr⟩,
    ⟨0xFE00003F, 0x42000008, 0x42000008, .tlbp⟩ ]

theorem test_decode_system_2 : systemRows2.all Row.right = true := by decide

/-- Doubleword instructions, reserved here (45_system.md R325), part 1. -/
def doublewordRows1 : List Row :=
  [ ⟨0xFC000000, 0x60000000, 0x60228001, .daddi 2 1 0x8001#16⟩,
    ⟨0xFC000000, 0x64000000, 0x64228001, .daddiu 2 1 0x8001#16⟩,
    ⟨0xFC000000, 0x68000000, 0x6842FFFC, .ldl 2 2 0xFFFC#16⟩,
    ⟨0xFC000000, 0x6C000000, 0x6C42FFFC, .ldr 2 2 0xFFFC#16⟩,
    ⟨0xFC000000, 0x9C000000, 0x9C42FFFC, .lwu 2 2 0xFFFC#16⟩,
    ⟨0xFC000000, 0xB0000000, 0xB042FFFC, .sdl 2 2 0xFFFC#16⟩,
    ⟨0xFC000000, 0xB4000000, 0xB442FFFC, .sdr 2 2 0xFFFC#16⟩,
    ⟨0xFC000000, 0xD0000000, 0xD042FFFC, .lld 2 2 0xFFFC#16⟩,
    ⟨0xFC000000, 0xDC000000, 0xDC42FFFC, .ld 2 2 0xFFFC#16⟩,
    ⟨0xFC000000, 0xF0000000, 0xF042FFFC, .scd 2 2 0xFFFC#16⟩,
    ⟨0xFC000000, 0xFC000000, 0xFC42FFFC, .sd 2 2 0xFFFC#16⟩,
    ⟨0xFC00003F, 0x00000014, 0x00221814, .dsllv 3 2 1⟩,
    ⟨0xFC00003F, 0x00000016, 0x00221816, .dsrlv 3 2 1⟩,
    ⟨0xFC00003F, 0x00000017, 0x00221817, .dsrav 3 2 1⟩,
    ⟨0xFC00003F, 0x0000002C, 0x0022182C, .dadd 3 1 2⟩,
    ⟨0xFC00003F, 0x0000002D, 0x0022182D, .daddu 3 1 2⟩ ]

theorem test_decode_doubleword_1 : doublewordRows1.all Row.right = true := by decide

/-- Doubleword instructions, reserved here (45_system.md R325), part 2. -/
def doublewordRows2 : List Row :=
  [ ⟨0xFC00003F, 0x0000002E, 0x0022182E, .dsub 3 1 2⟩,
    ⟨0xFC00003F, 0x0000002F, 0x0022182F, .dsubu 3 1 2⟩,
    ⟨0xFC00003F, 0x0000001C, 0x0022001C, .dmult 1 2⟩,
    ⟨0xFC00003F, 0x0000001D, 0x0022001D, .dmultu 1 2⟩,
    ⟨0xFC00003F, 0x0000001E, 0x0022001E, .ddiv 1 2⟩,
    ⟨0xFC00003F, 0x0000001F, 0x0022001F, .ddivu 1 2⟩,
    ⟨0xFC00003F, 0x00000038, 0x00021FF8, .dsll 3 2 31⟩,
    ⟨0xFC00003F, 0x0000003A, 0x00021FFA, .dsrl 3 2 31⟩,
    ⟨0xFC00003F, 0x0000003B, 0x00021FFB, .dsra 3 2 31⟩,
    ⟨0xFC00003F, 0x0000003C, 0x00021FFC, .dsll32 3 2 31⟩,
    ⟨0xFC00003F, 0x0000003E, 0x00021FFE, .dsrl32 3 2 31⟩,
    ⟨0xFC00003F, 0x0000003F, 0x00021FFF, .dsra32 3 2 31⟩,
    ⟨0xFFE00000, 0x40200000, 0x40221800, .dmfc0 2 3⟩,
    ⟨0xFFE00000, 0x40A00000, 0x40A21800, .dmtc0 2 3⟩,
    ⟨0xFFE00000, 0x44200000, 0x44221000, .dmfc1 2 2⟩,
    ⟨0xFFE00000, 0x44A00000, 0x44A21000, .dmtc1 2 2⟩ ]

theorem test_decode_doubleword_2 : doublewordRows2.all Row.right = true := by decide

/-- COP2 space (45_system.md R326), part 1. -/
def cop2Rows1 : List Row :=
  [ ⟨0xFC000000, 0x48000000, 0x49555555, .cop2 0x1555555⟩,
    ⟨0xFC000000, 0xC8000000, 0xC842FFFC, .lwc2 2 2 0xFFFC#16⟩,
    ⟨0xFC000000, 0xD8000000, 0xD842FFFC, .ldc2 2 2 0xFFFC#16⟩,
    ⟨0xFC000000, 0xE8000000, 0xE842FFFC, .swc2 2 2 0xFFFC#16⟩,
    ⟨0xFC000000, 0xF8000000, 0xF842FFFC, .sdc2 2 2 0xFFFC#16⟩ ]

theorem test_decode_cop2_1 : cop2Rows1.all Row.right = true := by decide

/-- FPU moves, loads, stores and branches (46_fpu_move.md), part 1. -/
def fpu_moveRows1 : List Row :=
  [ ⟨0xFFE00000, 0x44000000, 0x44021000, .mfc1 2 2⟩,
    ⟨0xFFE00000, 0x44800000, 0x44821000, .mtc1 2 2⟩,
    ⟨0xFFE00000, 0x44400000, 0x44421000, .cfc1 2 2⟩,
    ⟨0xFFE00000, 0x44C00000, 0x44C21000, .ctc1 2 2⟩,
    ⟨0xFC000000, 0xC4000000, 0xC444FFFC, .lwc1 4 2 0xFFFC#16⟩,
    ⟨0xFC000000, 0xE4000000, 0xE444FFFC, .swc1 4 2 0xFFFC#16⟩,
    ⟨0xFC000000, 0xD4000000, 0xD444FFFC, .ldc1 4 2 0xFFFC#16⟩,
    ⟨0xFC000000, 0xF4000000, 0xF444FFFC, .sdc1 4 2 0xFFFC#16⟩,
    ⟨0xFFE30000, 0x45000000, 0x4500FFFC, .bc1f 0xFFFC#16⟩,
    ⟨0xFFE30000, 0x45010000, 0x4501FFFC, .bc1t 0xFFFC#16⟩,
    ⟨0xFFE30000, 0x45020000, 0x4502FFFC, .bc1fl 0xFFFC#16⟩,
    ⟨0xFFE30000, 0x45030000, 0x4503FFFC, .bc1tl 0xFFFC#16⟩ ]

theorem test_decode_fpu_move_1 : fpu_moveRows1.all Row.right = true := by decide

/-- FPU arithmetic, conversion and compare (47_fpu_arith.md), part 1. -/
def fpu_arithRows1 : List Row :=
  [ ⟨0xFFE0003F, 0x46000000, 0x46041180, .addS 6 2 4⟩,
    ⟨0xFFE0003F, 0x46000001, 0x46041181, .subS 6 2 4⟩,
    ⟨0xFFE0003F, 0x46000002, 0x46041182, .mulS 6 2 4⟩,
    ⟨0xFFE0003F, 0x46000003, 0x46041183, .divS 6 2 4⟩,
    ⟨0xFFE0003F, 0x46000004, 0x46001184, .sqrtS 6 2⟩,
    ⟨0xFFE0003F, 0x46000005, 0x46001185, .absS 6 2⟩,
    ⟨0xFFE0003F, 0x46000006, 0x46001186, .movS 6 2⟩,
    ⟨0xFFE0003F, 0x46000007, 0x46001187, .negS 6 2⟩,
    ⟨0xFFE0003F, 0x46000008, 0x46001188, .roundLS 6 2⟩,
    ⟨0xFFE0003F, 0x46000009, 0x46001189, .truncLS 6 2⟩,
    ⟨0xFFE0003F, 0x4600000A, 0x4600118A, .ceilLS 6 2⟩,
    ⟨0xFFE0003F, 0x4600000B, 0x4600118B, .floorLS 6 2⟩,
    ⟨0xFFE0003F, 0x4600000C, 0x4600118C, .roundWS 6 2⟩,
    ⟨0xFFE0003F, 0x4600000D, 0x4600118D, .truncWS 6 2⟩,
    ⟨0xFFE0003F, 0x4600000E, 0x4600118E, .ceilWS 6 2⟩,
    ⟨0xFFE0003F, 0x4600000F, 0x4600118F, .floorWS 6 2⟩ ]

theorem test_decode_fpu_arith_1 : fpu_arithRows1.all Row.right = true := by decide

/-- FPU arithmetic, conversion and compare (47_fpu_arith.md), part 2. -/
def fpu_arithRows2 : List Row :=
  [ ⟨0xFFE0003F, 0x46000024, 0x460011A4, .cvtWS 6 2⟩,
    ⟨0xFFE0003F, 0x46000025, 0x460011A5, .cvtLS 6 2⟩,
    ⟨0xFFE0003F, 0x46200000, 0x46241180, .addD 6 2 4⟩,
    ⟨0xFFE0003F, 0x46200001, 0x46241181, .subD 6 2 4⟩,
    ⟨0xFFE0003F, 0x46200002, 0x46241182, .mulD 6 2 4⟩,
    ⟨0xFFE0003F, 0x46200003, 0x46241183, .divD 6 2 4⟩,
    ⟨0xFFE0003F, 0x46200004, 0x46201184, .sqrtD 6 2⟩,
    ⟨0xFFE0003F, 0x46200005, 0x46201185, .absD 6 2⟩,
    ⟨0xFFE0003F, 0x46200006, 0x46201186, .movD 6 2⟩,
    ⟨0xFFE0003F, 0x46200007, 0x46201187, .negD 6 2⟩,
    ⟨0xFFE0003F, 0x46200008, 0x46201188, .roundLD 6 2⟩,
    ⟨0xFFE0003F, 0x46200009, 0x46201189, .truncLD 6 2⟩,
    ⟨0xFFE0003F, 0x4620000A, 0x4620118A, .ceilLD 6 2⟩,
    ⟨0xFFE0003F, 0x4620000B, 0x4620118B, .floorLD 6 2⟩,
    ⟨0xFFE0003F, 0x4620000C, 0x4620118C, .roundWD 6 2⟩,
    ⟨0xFFE0003F, 0x4620000D, 0x4620118D, .truncWD 6 2⟩ ]

theorem test_decode_fpu_arith_2 : fpu_arithRows2.all Row.right = true := by decide

/-- FPU arithmetic, conversion and compare (47_fpu_arith.md), part 3. -/
def fpu_arithRows3 : List Row :=
  [ ⟨0xFFE0003F, 0x4620000E, 0x4620118E, .ceilWD 6 2⟩,
    ⟨0xFFE0003F, 0x4620000F, 0x4620118F, .floorWD 6 2⟩,
    ⟨0xFFE0003F, 0x46200024, 0x462011A4, .cvtWD 6 2⟩,
    ⟨0xFFE0003F, 0x46200025, 0x462011A5, .cvtLD 6 2⟩,
    ⟨0xFFE0003F, 0x46200020, 0x462011A0, .cvtSD 6 2⟩,
    ⟨0xFFE0003F, 0x46800020, 0x468011A0, .cvtSW 6 2⟩,
    ⟨0xFFE0003F, 0x46A00020, 0x46A011A0, .cvtSL 6 2⟩,
    ⟨0xFFE0003F, 0x46000021, 0x460011A1, .cvtDS 6 2⟩,
    ⟨0xFFE0003F, 0x46800021, 0x468011A1, .cvtDW 6 2⟩,
    ⟨0xFFE0003F, 0x46A00021, 0x46A011A1, .cvtDL 6 2⟩,
    ⟨0xFFE0003F, 0x46000030, 0x46041030, .cFS 2 4⟩,
    ⟨0xFFE0003F, 0x46000031, 0x46041031, .cUnS 2 4⟩,
    ⟨0xFFE0003F, 0x46000032, 0x46041032, .cEqS 2 4⟩,
    ⟨0xFFE0003F, 0x46000033, 0x46041033, .cUeqS 2 4⟩,
    ⟨0xFFE0003F, 0x46000034, 0x46041034, .cOltS 2 4⟩,
    ⟨0xFFE0003F, 0x46000035, 0x46041035, .cUltS 2 4⟩ ]

theorem test_decode_fpu_arith_3 : fpu_arithRows3.all Row.right = true := by decide

/-- FPU arithmetic, conversion and compare (47_fpu_arith.md), part 4. -/
def fpu_arithRows4 : List Row :=
  [ ⟨0xFFE0003F, 0x46000036, 0x46041036, .cOleS 2 4⟩,
    ⟨0xFFE0003F, 0x46000037, 0x46041037, .cUleS 2 4⟩,
    ⟨0xFFE0003F, 0x46000038, 0x46041038, .cSfS 2 4⟩,
    ⟨0xFFE0003F, 0x46000039, 0x46041039, .cNgleS 2 4⟩,
    ⟨0xFFE0003F, 0x4600003A, 0x4604103A, .cSeqS 2 4⟩,
    ⟨0xFFE0003F, 0x4600003B, 0x4604103B, .cNglS 2 4⟩,
    ⟨0xFFE0003F, 0x4600003C, 0x4604103C, .cLtS 2 4⟩,
    ⟨0xFFE0003F, 0x4600003D, 0x4604103D, .cNgeS 2 4⟩,
    ⟨0xFFE0003F, 0x4600003E, 0x4604103E, .cLeS 2 4⟩,
    ⟨0xFFE0003F, 0x4600003F, 0x4604103F, .cNgtS 2 4⟩,
    ⟨0xFFE0003F, 0x46200030, 0x46241030, .cFD 2 4⟩,
    ⟨0xFFE0003F, 0x46200031, 0x46241031, .cUnD 2 4⟩,
    ⟨0xFFE0003F, 0x46200032, 0x46241032, .cEqD 2 4⟩,
    ⟨0xFFE0003F, 0x46200033, 0x46241033, .cUeqD 2 4⟩,
    ⟨0xFFE0003F, 0x46200034, 0x46241034, .cOltD 2 4⟩,
    ⟨0xFFE0003F, 0x46200035, 0x46241035, .cUltD 2 4⟩ ]

theorem test_decode_fpu_arith_4 : fpu_arithRows4.all Row.right = true := by decide

/-- FPU arithmetic, conversion and compare (47_fpu_arith.md), part 5. -/
def fpu_arithRows5 : List Row :=
  [ ⟨0xFFE0003F, 0x46200036, 0x46241036, .cOleD 2 4⟩,
    ⟨0xFFE0003F, 0x46200037, 0x46241037, .cUleD 2 4⟩,
    ⟨0xFFE0003F, 0x46200038, 0x46241038, .cSfD 2 4⟩,
    ⟨0xFFE0003F, 0x46200039, 0x46241039, .cNgleD 2 4⟩,
    ⟨0xFFE0003F, 0x4620003A, 0x4624103A, .cSeqD 2 4⟩,
    ⟨0xFFE0003F, 0x4620003B, 0x4624103B, .cNglD 2 4⟩,
    ⟨0xFFE0003F, 0x4620003C, 0x4624103C, .cLtD 2 4⟩,
    ⟨0xFFE0003F, 0x4620003D, 0x4624103D, .cNgeD 2 4⟩,
    ⟨0xFFE0003F, 0x4620003E, 0x4624103E, .cLeD 2 4⟩,
    ⟨0xFFE0003F, 0x4620003F, 0x4624103F, .cNgtD 2 4⟩ ]

theorem test_decode_fpu_arith_5 : fpu_arithRows5.all Row.right = true := by decide

/-- One word of every row of the opcode table. -/
def allRows : List Row :=
  aluRows1 ++ aluRows2 ++ muldivRows1 ++ branchRows1 ++ branchRows2 ++ loadstoreRows1 ++ systemRows1 ++
    systemRows2 ++ doublewordRows1 ++ doublewordRows2 ++ cop2Rows1 ++ fpu_moveRows1 ++ fpu_arithRows1 ++
    fpu_arithRows2 ++ fpu_arithRows3 ++ fpu_arithRows4 ++ fpu_arithRows5

theorem test_every_row_of_the_table_is_there : allRows.length = 212 := by
  simp only [allRows, List.length_append]; decide

/-! One word of each family, bit by bit from its encoding (30_encoding.md R111 to R118). -/

theorem test_bits_of_a_special_word :   -- opcode SPECIAL, rs, rt, rd, sa, funct ADD
    decode 0b000000_00001_00010_00011_00000_100000#32 = .ok (.add 3 1 2) := by decide
theorem test_bits_of_a_divide :   -- opcode SPECIAL, rs, rt, 0, 0, funct DIV
    decode 0b000000_00001_00010_00000_00000_011010#32 = .ok (.div 1 2) := by decide
theorem test_bits_of_a_regimm_branch :   -- opcode REGIMM, rs, rt = BGEZAL, offset
    decode 0b000001_00101_10001_1111111111111100#32 = .ok (.bgezal 5 0xFFFC#16) := by decide
theorem test_bits_of_a_jump :   -- opcode J, 26-bit target
    decode 0b000010_10000000000000000000000001#32 = .ok (.j 0x2000001#26) := by decide
theorem test_bits_of_a_load :   -- opcode LW, base, rt, offset
    decode 0b100011_00010_00011_0000000000000001#32 = .ok (.lw 3 2 1#16) := by decide
theorem test_bits_of_a_cp0_move :   -- opcode COP0, rs = MT, rt, rd
    decode 0b010000_00100_01000_01100_00000_000000#32 = .ok (.mtc0 8 12) := by decide
theorem test_bits_of_a_doubleword_add :   -- opcode SPECIAL, rs, rt, rd, 0, funct DADD
    decode 0b000000_00001_00010_00011_00000_101100#32 = .ok (.dadd 3 1 2) := by decide
theorem test_bits_of_a_cop2_load :   -- opcode LWC2, base, rt, offset
    decode 0b110010_00010_00001_0000000000000000#32 = .ok (.lwc2 1 2 0#16) := by decide
theorem test_bits_of_an_fpu_move :   -- opcode COP1, rs = MF, rt, fs
    decode 0b010001_00000_00100_00010_00000_000000#32 = .ok (.mfc1 4 2) := by decide
theorem test_bits_of_an_fpu_add :   -- opcode COP1, fmt = S, ft, fs, fd, funct ADD
    decode 0b010001_10000_00100_00010_00110_000000#32 = .ok (.addS 6 2 4) := by decide
theorem test_bits_of_an_fpu_compare :   -- opcode COP1, fmt = D, ft, fs, 0, 11, cond = LT
    decode 0b010001_10001_00100_00010_00000_111100#32 = .ok (.cLtD 2 4) := by decide
theorem test_a_reserved_word_is_no_instruction :   -- opcode 0x13 (45_system.md R323)
    decode 0x4C000000#32 = .error .reservedInstruction := by decide
theorem test_cvt_s_s_is_no_instruction :   -- 47_fpu_arith.md R361, vector FA34
    decode 0x460011A0#32 = .error .unimplementedCop1 := by decide
theorem test_an_unused_field_is_ignored :   -- ADD with a nonzero sa field (30_encoding.md R123)
    decode 0x00221FE0#32 = .ok (.add 3 1 2) := by decide

/-! ### One step of the instructions -/

/-- The default state with this `pc` and these general registers. -/
def start (pc : Word) (xs : List (Reg × Word)) : State :=
  xs.foldl (fun s p => s.setX p.1 p.2) (State.reset.setPc pc)

/-- The start of the rows of 2.6: eight bytes at 0x100. -/
def withBytes (xs : List (Reg × Word)) : State :=
  let s := start 0x100#32 xs
  { s with mem := s.mem.writeBytes 0x100#32 [0x12#8, 0x34#8, 0x56#8, 0x78#8, 0x9A#8, 0xBC#8, 0xDE#8, 0xF0#8] }

/-- The start of the rows of 2.6: `x2 = 0x100`, `x3 = 0xAABBCCDD`. -/
def loadStart : State := withBytes [(2, 0x100#32), (3, 0xAABBCCDD#32)]

/-- The start of the rows of 2.8 and 2.9: CU1 set, `fpr[2]`, `fpr[4]` and FCSR given. -/
def fpuStart (a b : DWord) (fcsr : Word) : State :=
  ((((start 0x100#32 []).setCp0 12 0x20000000#32).setFpr 2 a).setFpr 4 b).setFcr 31 fcsr

/-- The word executes and the next state is as expected. -/
def gives (w : Word) (s : State) (p : State → Bool) : Bool :=
  match executeOne w s with
  | .next t => p t
  | .fault _ => false
  | .refused _ => false

/-- The word writes this value to this register and goes on. -/
def writes (w : Word) (s : State) (r : Reg) (v : Word) : Bool :=
  gives w s fun t => t.x r == v && t.cpu.pc == s.cpu.pc + 4#32 && t.cpu.delay == .none

/-- `Trap(c)` of 95_test_vectors.md: the Cause value, EPC, EXL, the vector, and no general register written. -/
def traps (w : Word) (s : State) (cause : Word) : Bool :=
  gives w s fun t => t.cause == cause && t.epc == s.cpu.pc && t.status == s.status ||| 2#32 &&
    t.cpu.pc == 0x80000180#32 && t.cpu.delay == .none && t.cpu.gpr == s.cpu.gpr

/-- The word changes nothing but `pc`. -/
def passes (w : Word) (s : State) : Bool :=
  gives w s fun t => t.cpu == { s.cpu with pc := s.cpu.pc + 4#32 } && t.mem.memReads == s.mem.memReads

/-- The word leaves these values in `pc` and `delay`. -/
def turns (w : Word) (s : State) (pc : Word) (d : Delay) : Bool :=
  gives w s fun t => t.cpu.pc == pc && t.cpu.delay == d

/-- The bytes 0x100 to 0x107 after the word. -/
def stores (w : Word) (s : State) (bs : List Byte) : Bool :=
  gives w s fun t => t.mem.readBytes 0x100#32 8 == bs && t.mem.memWrites == s.mem.memWrites + 1#64

/-- The word leaves these values in HI and LO. -/
def hilo (w : Word) (s : State) (hi lo : Word) : Bool :=
  gives w s fun t => t.cpu.hi == hi && t.cpu.lo == lo

/-- The word leaves these values in `fpr[6]` and FCSR. -/
def fp (w : Word) (s : State) (v : DWord) (fcsr : Word) : Bool :=
  gives w s fun t => t.fpr 6 == v && t.fcsr == fcsr && t.cpu.pc == 0x104#32

-- 2.3, AL1 to AL25
theorem test_add : traps 0x00221820#32 (start 0x100#32 [(1, 0x7FFFFFFF#32), (2, 1#32)]) 0x30#32 &&
    traps 0x00221820#32 (start 0x100#32 [(1, 0x80000000#32), (2, 0x80000000#32)]) 0x30#32 = true := by decide
theorem test_add_fits :
    writes 0x00221820#32 (start 0x100#32 [(1, 5#32), (2, 0xFFFFFFFD#32)]) 3 2#32 = true := by decide
theorem test_addu :
    writes 0x00221821#32 (start 0x100#32 [(1, 0x7FFFFFFF#32), (2, 1#32)]) 3 0x80000000#32 = true := by decide
theorem test_addu_to_x0 : writes 0x00220021#32 (start 0x100#32 [(1, 1#32), (2, 2#32)]) 0 0#32 = true := by decide
theorem test_sub : traps 0x00221822#32 (start 0x100#32 [(1, 0x80000000#32), (2, 1#32)]) 0x30#32 = true := by decide
theorem test_sub_fits :
    writes 0x00221822#32 (start 0x100#32 [(1, 3#32), (2, 5#32)]) 3 0xFFFFFFFE#32 = true := by decide
theorem test_subu :
    writes 0x00221823#32 (start 0x100#32 [(1, 0x80000000#32), (2, 1#32)]) 3 0x7FFFFFFF#32 = true := by decide
theorem test_addi : traps 0x20230001#32 (start 0x100#32 [(1, 0x7FFFFFFF#32)]) 0x30#32 = true := by decide
theorem test_addi_negative : writes 0x2022FFFF#32 (start 0x100#32 []) 2 0xFFFFFFFF#32 = true := by decide
theorem test_addiu : writes 0x2423FFFF#32 (start 0x100#32 []) 3 0xFFFFFFFF#32 = true := by decide
theorem test_andi : writes 0x3023FFFF#32 (start 0x100#32 [(1, 0xFFFFFFFF#32)]) 3 0xFFFF#32 = true := by decide
theorem test_ori : writes 0x34238000#32 (start 0x100#32 []) 3 0x8000#32 = true := by decide
theorem test_ori_source_is_destination :
    writes 0x34218765#32 (start 0x100#32 [(1, 0x12340000#32)]) 1 0x12348765#32 = true := by decide
theorem test_xori : writes 0x3823FFFF#32 (start 0x100#32 [(1, 0x12345678#32)]) 3 0x1234A987#32 = true := by decide
theorem test_lui : writes 0x3C038001#32 (start 0x100#32 []) 3 0x80010000#32 = true := by decide
theorem test_slt : writes 0x0022182A#32 (start 0x100#32 [(1, 0xFFFFFFFF#32), (2, 1#32)]) 3 1#32 = true := by decide
theorem test_sltu : writes 0x0022182B#32 (start 0x100#32 [(1, 0xFFFFFFFF#32), (2, 1#32)]) 3 0#32 = true := by decide
theorem test_slti : writes 0x2823FFFF#32 (start 0x100#32 [(1, 0x80000000#32)]) 3 1#32 = true := by decide
theorem test_sltiu : writes 0x2C23FFFF#32 (start 0x100#32 [(1, 5#32)]) 3 1#32 &&
    writes 0x2C23FFFF#32 (start 0x100#32 [(1, 0xFFFFFFFF#32)]) 3 0#32 = true := by decide
theorem test_sll : writes 0x00021FC0#32 (start 0x100#32 [(2, 3#32)]) 3 0x80000000#32 = true := by decide
theorem test_srl : writes 0x00021FC2#32 (start 0x100#32 [(2, 0x80000000#32)]) 3 1#32 = true := by decide
theorem test_sra : writes 0x00021FC3#32 (start 0x100#32 [(2, 0x80000000#32)]) 3 0xFFFFFFFF#32 = true := by decide
theorem test_sllv : writes 0x00221804#32 (start 0x100#32 [(1, 33#32), (2, 1#32)]) 3 2#32 = true := by decide
theorem test_srlv :
    writes 0x00221806#32 (start 0x100#32 [(1, 0xFFFFFFFF#32), (2, 0x80000000#32)]) 3 1#32 = true := by decide
theorem test_srav :
    writes 0x00221807#32 (start 0x100#32 [(1, 4#32), (2, 0xF0000000#32)]) 3 0xFF000000#32 = true := by decide
theorem test_and_or_xor_nor :
    let s := start 0x100#32 [(1, 0xFF00FF00#32), (2, 0x0FF00FF0#32)]
    (writes 0x00221824#32 s 3 0x0F000F00#32 && writes 0x00221825#32 s 3 0xFFF0FFF0#32 &&
      writes 0x00221826#32 s 3 0xF0F0F0F0#32 && writes 0x00221827#32 s 3 0x000F000F#32) = true := by decide
theorem test_nop : passes 0#32 (start 0x100#32 [(1, 1#32)]) = true := by decide

-- 2.4, MD1 to MD14
theorem test_mult : hilo 0x00220018#32 (start 0x100#32 [(1, 0xFFFFFFFF#32), (2, 0xFFFFFFFF#32)]) 0#32 1#32 &&
    hilo 0x00220018#32 (start 0x100#32 [(1, 0x80000000#32), (2, 1#32)]) 0xFFFFFFFF#32 0x80000000#32 = true := by decide
theorem test_multu : hilo 0x00220019#32 (start 0x100#32 [(1, 0xFFFFFFFF#32), (2, 0xFFFFFFFF#32)])
    0xFFFFFFFE#32 1#32 = true := by decide
theorem test_div : hilo 0x0022001A#32 (start 0x100#32 [(1, 0xFFFFFFF9#32), (2, 2#32)]) 0xFFFFFFFF#32 0xFFFFFFFD#32 &&
    hilo 0x0022001A#32 (start 0x100#32 [(1, 7#32), (2, 0xFFFFFFFE#32)]) 1#32 0xFFFFFFFD#32 = true := by decide
theorem test_div_corners : hilo 0x0022001A#32 (start 0x100#32 [(1, 5#32)]) 5#32 0xFFFFFFFF#32 &&
    hilo 0x0022001A#32 (start 0x100#32 [(1, 0xFFFFFFFB#32)]) 0xFFFFFFFB#32 1#32 &&
    hilo 0x0022001A#32 (start 0x100#32 [(1, 0x80000000#32), (2, 0xFFFFFFFF#32)]) 0#32 0x80000000#32 = true := by decide
theorem test_divu : hilo 0x0022001B#32 (start 0x100#32 [(1, 5#32)]) 5#32 0xFFFFFFFF#32 &&
    hilo 0x0022001B#32 (start 0x100#32 [(1, 0xFFFFFFF9#32), (2, 2#32)]) 1#32 0x7FFFFFFC#32 = true := by decide
theorem test_hi_moves : hilo 0x00200011#32 (start 0x100#32 [(1, 0xABCD#32)]) 0xABCD#32 0#32 &&
    writes 0x00001810#32 ((start 0x100#32 []).setHi 0xABCD#32) 3 0xABCD#32 = true := by decide
theorem test_lo_moves : hilo 0x00200013#32 (start 0x100#32 [(1, 0x1234#32)]) 0#32 0x1234#32 &&
    writes 0x00001812#32 ((start 0x100#32 []).setLo 0x1234#32) 3 0x1234#32 = true := by decide

-- 2.5, BR1 to BR20, and the examples of 43_branch.md
theorem test_j : turns 0x08000010#32 (start 0x100#32 []) 0x104#32 (.taken 0x40#32) &&
    turns 0x08000010#32 (start 0x0FFFFFFC#32 []) 0x10000000#32 (.taken 0x10000040#32) = true := by decide
theorem test_jal : gives 0x0C000040#32 (start 0x200#32 [])
    (fun t => t.x 31 == 0x208#32 && t.cpu.delay == .taken 0x100#32) = true := by decide
theorem test_jr : turns 0x00200008#32 (start 0x100#32 [(1, 0x123#32)]) 0x104#32 (.taken 0x123#32) = true := by decide
theorem test_jalr : gives 0x00200809#32 (start 0x100#32 [(1, 0x400#32)])
    (fun t => t.x 1 == 0x108#32 && t.cpu.delay == .taken 0x400#32) = true := by decide
theorem test_beq : turns 0x10220003#32 (start 0x100#32 [(1, 7#32), (2, 7#32)]) 0x104#32 (.taken 0x110#32) &&
    turns 0x1000FFFE#32 (start 0#32 []) 4#32 (.taken 0xFFFFFFFC#32) = true := by decide
theorem test_bne : turns 0x14220003#32 (start 0x100#32 [(1, 1#32), (2, 2#32)]) 0x104#32 (.taken 0x110#32) &&
    turns 0x14220003#32 (start 0x100#32 [(1, 1#32), (2, 1#32)]) 0x104#32 .notTaken = true := by decide
theorem test_blez : turns 0x18000001#32 (start 0x100#32 []) 0x104#32 (.taken 0x108#32) = true := by decide
theorem test_bgtz : turns 0x1C000001#32 (start 0x100#32 []) 0x104#32 .notTaken = true := by decide
theorem test_bltz :
    turns 0x04200001#32 (start 0x100#32 [(1, 0x80000000#32)]) 0x104#32 (.taken 0x108#32) = true := by decide
theorem test_bgez : turns 0x04210001#32 (start 0x100#32 []) 0x104#32 (.taken 0x108#32) = true := by decide
theorem test_bltzal : gives 0x07F00001#32 (start 0x100#32 [(31, 0xFFFFFFFF#32)])
    (fun t => t.x 31 == 0x108#32 && t.cpu.delay == .taken 0x108#32) = true := by decide
theorem test_bltzal_not_taken : gives 0x04B00004#32 (start 0x100#32 [(5, 1#32)])
    (fun t => t.x 31 == 0x108#32 && t.cpu.delay == .notTaken) = true := by decide
theorem test_bgezal : gives 0x04110001#32 (start 0x100#32 [])
    (fun t => t.x 31 == 0x108#32 && t.cpu.delay == .taken 0x108#32) = true := by decide
theorem test_beql : turns 0x50220002#32 (start 0x100#32 [(1, 9#32), (2, 9#32)]) 0x104#32 (.taken 0x10C#32) &&
    turns 0x50220003#32 (start 0x100#32 [(1, 1#32), (2, 2#32)]) 0x108#32 .none = true := by decide
theorem test_bnel : turns 0x54210002#32 (start 0x100#32 [(1, 9#32)]) 0x108#32 .none = true := by decide
theorem test_blezl_bgtzl : turns 0x58200002#32 (start 0x100#32 [(1, 1#32)]) 0x108#32 .none &&
    turns 0x5C200002#32 (start 0x100#32 [(1, 1#32)]) 0x104#32 (.taken 0x10C#32) = true := by decide
theorem test_bltzl_bgezl : turns 0x04220002#32 (start 0x100#32 []) 0x108#32 .none &&
    turns 0x04230002#32 (start 0x100#32 []) 0x104#32 (.taken 0x10C#32) = true := by decide
theorem test_bltzall : gives 0x04320002#32 (start 0x100#32 [(1, 5#32)])
    (fun t => t.x 31 == 0x108#32 && t.cpu.pc == 0x108#32 && t.cpu.delay == .none) = true := by decide
theorem test_bgezall : gives 0x04330002#32 (start 0x100#32 [(1, 5#32)])
    (fun t => t.x 31 == 0x108#32 && t.cpu.delay == .taken 0x10C#32) = true := by decide
theorem test_end_of_a_taken_slot :   -- CT2
    turns 0#32 ((start 0x104#32 []).setDelay (.taken 0x110#32)) 0x110#32 .none = true := by decide
theorem test_branch_in_a_slot :   -- CT4
    executeOne 0x10000003#32 ((start 0x104#32 []).setDelay (.taken 0x40#32)) =
      .refused .controlTransferInDelaySlot := by rfl

-- 2.6, LS1 to LS19
theorem test_lb : writes 0x80430004#32 loadStart 3 0xFFFFFF9A#32 = true := by decide
theorem test_lbu : writes 0x90430004#32 loadStart 3 0x9A#32 = true := by decide
theorem test_lh : writes 0x84430003#32 loadStart 3 0x789A#32 &&
    writes 0x84430004#32 loadStart 3 0xFFFF9ABC#32 && writes 0x84430001#32 loadStart 3 0x3456#32 = true := by decide
theorem test_lhu : writes 0x94430004#32 loadStart 3 0x9ABC#32 = true := by decide
theorem test_lw : gives 0x8C430001#32 loadStart
    (fun t => t.x 3 == 0x3456789A#32 && t.mem.memReads == loadStart.mem.memReads + 1#64) = true := by decide
theorem test_lw_unmapped : writes 0x8C430001#32 (start 0x100#32 [(2, 0x20000000#32)]) 3 0xFFFFFFFF#32 = true := by decide
theorem test_lwl : writes 0x88430002#32 loadStart 3 0x5678CCDD#32 &&
    writes 0x88430003#32 loadStart 3 0x78BBCCDD#32 = true := by decide
theorem test_lwr : writes 0x98430002#32 loadStart 3 0xAA123456#32 &&
    writes 0x98430000#32 loadStart 3 0xAABBCC12#32 = true := by decide
theorem test_sb : stores 0xA0430001#32 loadStart
    [0x12#8, 0xDD#8, 0x56#8, 0x78#8, 0x9A#8, 0xBC#8, 0xDE#8, 0xF0#8] = true := by decide
theorem test_sb_to_a_slot :   -- LS16, ME6: one byte lane of slot 1
    let s := start 0x100#32 [(3, 0xAABBCCDD#32), (5, 0xC0000000#32)]
    gives 0xA0A30011#32 { s with mem := { s.mem with mmio := s.mem.mmio.set 1 0x11223344#32 } }
      (fun t => t.mem.mmio[1] == 0x11DD3344#32) = true := by decide
set_option maxRecDepth 4096 in
theorem test_sh : stores 0xA4430003#32 loadStart
    [0x12#8, 0x34#8, 0x56#8, 0xCC#8, 0xDD#8, 0xBC#8, 0xDE#8, 0xF0#8] = true := by decide
set_option maxRecDepth 4096 in
theorem test_sw : stores 0xAC430000#32 loadStart
    [0xAA#8, 0xBB#8, 0xCC#8, 0xDD#8, 0x9A#8, 0xBC#8, 0xDE#8, 0xF0#8] = true := by decide
set_option maxRecDepth 4096 in
theorem test_swl : stores 0xA8430002#32 loadStart
    [0x12#8, 0x34#8, 0xAA#8, 0xBB#8, 0x9A#8, 0xBC#8, 0xDE#8, 0xF0#8] = true := by decide
set_option maxRecDepth 4096 in
theorem test_swr : stores 0xB8430002#32 loadStart
    [0xBB#8, 0xCC#8, 0xDD#8, 0x78#8, 0x9A#8, 0xBC#8, 0xDE#8, 0xF0#8] = true := by decide
theorem test_ll : gives 0xC0430000#32 loadStart
    (fun t => t.x 3 == 0x12345678#32 && t.cpu.llbit == true) = true := by decide
set_option maxRecDepth 4096 in
theorem test_sc : gives 0xE0440000#32 ((loadStart.setX 4 0x01020304#32).setLL true)
    (fun t => t.mem.readBytes 0x100#32 4 == [1#8, 2#8, 3#8, 4#8] && t.x 4 == 1#32 && !t.cpu.llbit) = true := by decide
theorem test_sc_fails : gives 0xE0440004#32 (loadStart.setX 4 7#32)
    (fun t => t.mem.dram == loadStart.mem.dram && t.mem.memWrites == loadStart.mem.memWrites && t.x 4 == 0#32) = true := by decide
theorem test_sync : passes 0x0000000F#32 loadStart = true := by decide
theorem test_cache : passes 0xBC500000#32 loadStart = true := by decide

-- 2.7, SY1 to SY21
theorem test_syscall : traps 0x0000000C#32 (start 0x100#32 []) 0x20#32 = true := by decide
theorem test_syscall_in_a_slot :   -- SY2
    gives 0x0000000C#32 ((start 0x104#32 []).setDelay (.taken 0x110#32))
      (fun t => t.epc == 0x100#32 && t.cause == 0x80000020#32 && t.cpu.pc == 0x80000180#32) = true := by decide
theorem test_syscall_nested :   -- SY20
    gives 0x0000000C#32 (((start 0x80000190#32 []).setCp0 12 2#32).setCp0 14 0x100#32)
      (fun t => t.epc == 0x100#32 && t.cause == 0x20#32 && t.cpu.pc == 0x80000180#32) = true := by decide
theorem test_break : traps 0x0000000D#32 (start 0x100#32 []) 0x24#32 = true := by decide
theorem test_teq : traps 0x00210034#32 (start 0x100#32 [(1, 3#32)]) 0x34#32 = true := by decide
theorem test_tne : passes 0x00210036#32 (start 0x100#32 [(1, 3#32)]) &&
    traps 0x00200036#32 (start 0x100#32 [(1, 1#32)]) 0x34#32 = true := by decide
theorem test_tge_tgeu :
    let s := start 0x100#32 [(1, 1#32), (2, 0xFFFFFFFF#32)]
    (traps 0x00220030#32 s 0x34#32 && passes 0x00220031#32 s) = true := by decide
theorem test_tlt_tltu :
    let s := start 0x100#32 [(1, 0xFFFFFFFF#32), (2, 1#32)]
    (traps 0x00220032#32 s 0x34#32 && passes 0x00220033#32 s) = true := by decide
theorem test_tgei_tgeiu :
    let s := start 0x100#32 []
    (traps 0x0428FFFF#32 s 0x34#32 && passes 0x0429FFFF#32 s) = true := by decide
theorem test_tlti_tltiu : traps 0x042AFFFF#32 (start 0x100#32 [(1, 0x80000000#32)]) 0x34#32 &&
    traps 0x042BFFFF#32 (start 0x100#32 [(1, 5#32)]) 0x34#32 = true := by decide
theorem test_teqi_tnei :
    let s := start 0x100#32 []
    (traps 0x042C0000#32 s 0x34#32 && passes 0x042E0000#32 s) = true := by decide
theorem test_mfc0 : writes 0x401A6800#32 ((start 0x100#32 []).setCp0 13 0x20#32) 26 0x20#32 = true := by decide
theorem test_mtc0 : gives 0x40816000#32 (start 0x100#32 [(1, 0xFFFFFFFF#32)])
    (fun t => t.status == 0xFFFFFFFF#32) = true := by decide
theorem test_eret : gives 0x42000018#32 ((((start 0x100#32 []).setCp0 12 2#32).setCp0 14 0x300#32).setLL true)
    (fun t => t.cpu.pc == 0x300#32 && t.status == 0#32 && !t.cpu.llbit && t.cpu.delay == .none) = true := by decide
theorem test_eret_error_level :
    gives 0x42000018#32 ((((start 0x100#32 []).setCp0 12 6#32).setCp0 30 0x200#32).setCp0 14 0x300#32)
      (fun t => t.cpu.pc == 0x200#32 && t.status == 2#32) = true := by decide
theorem test_reserved_word : traps 0x4C000000#32 (start 0x100#32 []) 0x28#32 = true := by decide
theorem test_tlb_instructions :
    let s := start 0x100#32 []
    (traps 0x42000001#32 s 0x28#32 && traps 0x42000002#32 s 0x28#32 && traps 0x42000006#32 s 0x28#32 &&
      traps 0x42000008#32 s 0x28#32) = true := by decide
theorem test_doubleword_instructions :
    let s := loadStart
    (traps 0x0022182C#32 s 0x28#32 && traps 0xDC430000#32 s 0x28#32 && traps 0x40220000#32 s 0x28#32) = true := by
  decide
theorem test_cop2 :
    let s := (start 0x100#32 []).setCp0 12 0x40000000#32
    (traps 0xC8410000#32 s 0x2000002C#32 && traps 0x48000000#32 s 0x2000002C#32) = true := by decide

-- 2.8, FM1 to FM15
theorem test_mfc1 : writes 0x44031000#32 (fpuStart 0x112233443F800000#64 0 0) 3 0x3F800000#32 = true := by decide
theorem test_mfc1_unusable : traps 0x44031000#32 (start 0x100#32 []) 0x1000002C#32 = true := by decide
theorem test_mtc1 : gives 0x44811000#32 ((fpuStart 0x1122334455667788#64 0 0).setX 1 0x3F800000#32)
    (fun t => t.fpr 2 == 0x112233443F800000#64) = true := by decide
theorem test_dmfc1 : traps 0x44231000#32 (fpuStart 0 0 0) 0x28#32 = true := by decide
theorem test_cfc1 : writes 0x4445F800#32 (fpuStart 0 0 0x00800000#32) 5 0x00800000#32 = true := by decide
theorem test_ctc1 : gives 0x44C6F800#32 ((fpuStart 0 0 0).setX 6 3#32)
    (fun t => t.fcsr == 3#32 && t.cpu.pc == 0x104#32) = true := by decide
theorem test_ctc1_raises : gives 0x44C1F800#32 ((fpuStart 0 0 0).setX 1 0x1080#32)
      (fun t => t.fcsr == 0x1080#32 && t.cause == 0x3C#32 && t.cpu.pc == 0x80000180#32) &&
    gives 0x44C1F800#32 ((fpuStart 0 0 0).setX 1 0x20000#32)
      (fun t => t.fcsr == 0x20000#32 && t.cause == 0x3C#32) = true := by decide
theorem test_lwc1 : gives 0xC4420000#32 ((fpuStart 0x1122334455667788#64 0 0).setX 2 0x20000000#32)
    (fun t => t.fpr 2 == 0x11223344FFFFFFFF#64) = true := by decide
theorem test_swc1 : gives 0xE4420004#32 ((fpuStart 0x123456783F800000#64 0 0).setX 2 0x100#32)
    (fun t => t.mem.readBytes 0x104#32 4 == [0x3F#8, 0x80#8, 0#8, 0#8]) = true := by decide
theorem test_ldc1 : gives 0xD4420000#32 (loadStart.setCp0 12 0x20000000#32)
    (fun t => t.fpr 2 == 0x123456789ABCDEF0#64) = true := by decide
set_option maxRecDepth 4096 in
theorem test_sdc1 : gives 0xF4420010#32 ((fpuStart 0x0123456789ABCDEF#64 0 0).setX 2 0x100#32)
    (fun t => t.mem.readBytes 0x110#32 8 == [0x01#8, 0x23#8, 0x45#8, 0x67#8, 0x89#8, 0xAB#8, 0xCD#8, 0xEF#8] &&
      t.mem.memWrites == 1#64) = true := by decide
theorem test_bc1f_bc1t : turns 0x45000004#32 (fpuStart 0 0 0) 0x104#32 (.taken 0x114#32) &&
    turns 0x45010004#32 (fpuStart 0 0 0) 0x104#32 .notTaken = true := by decide
theorem test_bc1fl_bc1tl : turns 0x45020004#32 (fpuStart 0 0 0x00800000#32) 0x108#32 .none &&
    turns 0x45030004#32 (fpuStart 0 0 0x00800000#32) 0x104#32 (.taken 0x114#32) = true := by decide

-- 2.9, FA1 to FA35, and the examples of 47_fpu_arith.md
theorem test_add_s : fp 0x46041180#32 (fpuStart 0x3F800000#64 0x40000000#64 0) 0x40400000#64 0#32 &&
    fp 0x46041180#32 (fpuStart 0x7F7FFFFF#64 0x7F7FFFFF#64 0) 0x7F800000#64 0x5014#32 &&
    fp 0x46041180#32 (fpuStart 0x7F7FFFFF#64 0x7F7FFFFF#64 1#32) 0x7F7FFFFF#64 0x5015#32 = true := by decide
theorem test_add_s_enabled_and_nan :
    gives 0x46041180#32 (fpuStart 0x7F7FFFFF#64 0x7F7FFFFF#64 0x200#32)
      (fun t => t.cause == 0x3C#32 && t.fcsr == 0x5200#32 && t.fpr 6 == 0#64) &&
    fp 0x46041180#32 (fpuStart 0x7FC00000#64 0x3F800000#64 0) 0x7FBFFFFF#64 0x10040#32 &&
    fp 0x46041180#32 (fpuStart 0x7FBFFFFF#64 0x3F800000#64 0) 0x7FBFFFFF#64 0#32 = true := by decide
theorem test_add_d :
    fp 0x46241180#32 (fpuStart 0x3FF0000000000000#64 0x3FF0000000000000#64 0) 0x4000000000000000#64 0#32 = true := by
  decide
theorem test_sub_s : fp 0x46041181#32 (fpuStart 0x3F800000#64 0x3F800000#64 3#32) 0x80000000#64 3#32 &&
    fp 0x46041181#32 (fpuStart 0x7F800000#64 0x7F800000#64 0) 0x7FBFFFFF#64 0x10040#32 = true := by decide
theorem test_sub_d :
    fp 0x46241181#32 (fpuStart 0x3FF0000000000000#64 0x3FF0000000000000#64 3#32) 0x8000000000000000#64 3#32 = true := by
  decide
theorem test_mul_s : fp 0x46041182#32 (fpuStart 0x00800001#64 0x3F000000#64 0) 0x00400000#64 0x300C#32 &&
    fp 0x46041182#32 (fpuStart 0x00800000#64 0x3F000000#64 0) 0x00400000#64 0#32 &&
    fp 0x46041182#32 (fpuStart 0#64 0x7F800000#64 0) 0x7FBFFFFF#64 0x10040#32 = true := by decide
theorem test_div_s : fp 0x46041183#32 (fpuStart 0x3F800000#64 0x40400000#64 0) 0x3EAAAAAB#64 0x1004#32 &&
    fp 0x46041183#32 (fpuStart 0x3F800000#64 0 0) 0x7F800000#64 0x8020#32 &&
    fp 0x46041183#32 (fpuStart 0 0 0) 0x7FBFFFFF#64 0x10040#32 = true := by decide
set_option maxRecDepth 16384 in
theorem test_sqrt_s : fp 0x46001184#32 (fpuStart 0x40000000#64 0 0) 0x3FB504F3#64 0x1004#32 &&
    fp 0x46001184#32 (fpuStart 0xBF800000#64 0 0) 0x7FBFFFFF#64 0x10040#32 &&
    fp 0x46001184#32 (fpuStart 0x80000000#64 0 0) 0x80000000#64 0#32 = true := by decide
set_option maxRecDepth 16384 in
theorem test_sqrt_d :
    fp 0x46201184#32 (fpuStart 0x4000000000000000#64 0 0) 0x3FF6A09E667F3BCD#64 0x1004#32 = true := by decide
theorem test_abs_neg_s : fp 0x46001185#32 (fpuStart 0xBF800000#64 0 0) 0x3F800000#64 0#32 &&
    fp 0x46001187#32 (fpuStart 0 0 0) 0x80000000#64 0#32 &&
    fp 0x46001187#32 (fpuStart 0x7FC00000#64 0 0) 0x7FBFFFFF#64 0x10040#32 = true := by decide
theorem test_neg_d : fp 0x46201187#32 (fpuStart 0x3FF0000000000000#64 0 0) 0xBFF0000000000000#64 0#32 = true := by decide
theorem test_mov_s : fp 0x46001186#32 (fpuStart 0x7FC00000#64 0 0x1004#32) 0x7FC00000#64 0x1004#32 = true := by decide
theorem test_to_word :
    let s := fpuStart 0x40200000#64 0 0
    let n := fpuStart 0xC0200000#64 0 0
    (fp 0x4600118C#32 s 2#64 0x1004#32 && fp 0x4600118D#32 s 2#64 0x1004#32 && fp 0x4600118E#32 s 3#64 0x1004#32 &&
      fp 0x4600118F#32 s 2#64 0x1004#32 && fp 0x4600118C#32 n 0xFFFFFFFE#64 0x1004#32 &&
      fp 0x4600118D#32 n 0xFFFFFFFE#64 0x1004#32 && fp 0x4600118E#32 n 0xFFFFFFFE#64 0x1004#32 &&
      fp 0x4600118F#32 n 0xFFFFFFFD#64 0x1004#32) = true := by decide
theorem test_to_long : fp 0x46201188#32 (fpuStart 0x4270000000000800#64 0 0) 0x10000000000#64 0x1004#32 &&
    fp 0x46001189#32 (fpuStart 0xBFC00000#64 0 0) 0xFFFFFFFFFFFFFFFF#64 0x1004#32 &&
    fp 0x4600118A#32 (fpuStart 0x3FC00000#64 0 0) 2#64 0x1004#32 &&
    fp 0x4600118B#32 (fpuStart 0xBFC00000#64 0 0) 0xFFFFFFFFFFFFFFFE#64 0x1004#32 = true := by decide
theorem test_cvt_w_s : fp 0x460011A4#32 (fpuStart 0x40200000#64 0 2#32) 3#64 0x1006#32 &&
    fp 0x460011A4#32 (fpuStart 0x4F000000#64 0 0) 0x7FFFFFFF#64 0x10040#32 &&
    fp 0x460011A4#32 (fpuStart 0xCF000000#64 0 0) 0x80000000#64 0#32 = true := by decide
theorem test_cvt_l : fp 0x460011A5#32 (fpuStart 0x53800000#64 0 0) 0x10000000000#64 0#32 &&
    fp 0x462011A5#32 (fpuStart 0x4202A05F20000000#64 0 0) 0x2540BE400#64 0#32 = true := by decide
theorem test_cvt_s : fp 0x468011A0#32 (fpuStart 0x01000001#64 0 0) 0x4B800000#64 0x1004#32 &&
    fp 0x462011A0#32 (fpuStart 0x3FD5555555555555#64 0 0) 0x3EAAAAAB#64 0x1004#32 = true := by decide
theorem test_cvt_d : fp 0x460011A1#32 (fpuStart 0x3F800000#64 0 0) 0x3FF0000000000000#64 0#32 = true := by decide
theorem test_compare_s : gives 0x46041032#32 (fpuStart 0x3F800000#64 0x3F800000#64 0) (fun t => t.fcsr == 0x800000#32) &&
    gives 0x4604103C#32 (fpuStart 0x3F800000#64 0x40000000#64 0) (fun t => t.fcsr == 0x800000#32) &&
    gives 0x46041033#32 (fpuStart 0x3F800000#64 0x7FBFFFFF#64 0) (fun t => t.fcsr == 0x800000#32) &&
    gives 0x4604103A#32 (fpuStart 0x3F800000#64 0x7FBFFFFF#64 0) (fun t => t.fcsr == 0x10040#32) = true := by decide
theorem test_compare_enabled : gives 0x4604103A#32 (fpuStart 0x3F800000#64 0x7FBFFFFF#64 0x800800#32)
    (fun t => t.fcsr == 0x810800#32 && t.cause == 0x3C#32) = true := by decide
theorem test_compare_d :
    gives 0x4624103E#32 (fpuStart 0 0x8000000000000000#64 0) (fun t => t.fcsr == 0x800000#32) = true := by decide
theorem test_unassigned_cop1 : gives 0x460011A0#32 (fpuStart 0x3F800000#64 0 0)
    (fun t => t.fcsr == 0x20000#32 && t.cause == 0x3C#32 && t.fpr 6 == 0#64) = true := by decide

/-! ### The boundary, memory and the host -/

/-- The host operation returns at once, and its reply and state are as expected. -/
def answers (op : HostOp) (s : State) (p : HostReply → State → Bool) : Bool :=
  match hostOp op s with
  | .ok r t => p r t
  | .entered _ => false
  | .fatal => false

theorem test_interrupt :   -- EX1, EX2, EX3
    let s := (start 0x40#32 []).setCp0 13 0x100#32
    let t := boundary (s.setCp0 12 0x101#32)
    (t.epc == 0x40#32 && t.cause == 0x100#32 && t.status == 0x103#32 && t.cpu.pc == 0x80000180#32 &&
      (boundary (s.setCp0 12 0x103#32)).cpu.pc == 0x40#32 && (boundary (s.setCp0 12 0x105#32)).cpu.pc == 0x40#32) = true := by decide
theorem test_host_exception_first :   -- CT11, EX5
    answers (.raiseException 31 3) (((start 0x100#32 []).setCp0 12 2#32).setCp0 14 0x500#32) (fun r t =>
      r == .flag true && (boundary t).epc == 0x500#32 && (boundary t).cause == 0x3000007C#32) = true := by decide
theorem test_handle_exception :   -- CT12
    answers (.raiseException 13 0) (start 0x100#32 []) (fun _ t =>
      answers .handleException t (fun r u => r == .flag true && u.epc == 0x100#32 && u.cause == 0x34#32 &&
        u.cpu.pc == 0x80000180#32 && u.ctl.cycles == 0#64 && u.ctl.pendingExc == none)) = true := by decide
theorem test_write64 :   -- ME2
    answers (.write64 0x200#32 0x0123456789ABCDEF#64) (start 0#32 []) (fun _ t =>
      answers (.read64 0x202#32) t (fun r _ => r == .dword 0x456789ABCDEF0000#64)) = true := by decide
theorem test_read_at_the_top :   -- ME4
    answers (.write32 0#32 0x12345678#32) (start 0#32 []) (fun _ t =>
      answers (.read32 0xFFFFFFFE#32) t (fun r _ => r == .word 0xFFFF1234#32)) = true := by decide
theorem test_kseg_aliases :   -- ME22
    answers (.write32 0xA0000100#32 0x01020304#32) (start 0#32 []) (fun _ t =>
      answers (.read32 0x80000100#32) t (fun r _ => r == .word 0x01020304#32)) = true := by decide
theorem test_overlapping_map :   -- S4
    answers (.map ⟨0x003FFFFF#32, 0x04000000#32, 1#32⟩) (start 0#32 []) (fun r t =>
      r == .flag false && t.mem.maps == initialMaps) = true := by decide
theorem test_load_rom :   -- ME16, ME18
    answers (.loadRom [0xDE#8, 0xAD#8, 0xBE#8, 0xEF#8]) (start 0#32 []) (fun r t => r == .flag true &&
      answers (.read32 0x10000000#32) t (fun q _ => q == .word 0xDEADBEEF#32) &&
      answers (.loadRom [0xAB#8, 0xCD#8]) t (fun _ u =>
        answers (.read32 0x10000000#32) u (fun q _ => q == .word 0xABCDFFFF#32))) = true := by decide
theorem test_breakpoint_bound :   -- S8
    answers (.setBreakpoint 0x400000#32) (start 0#32 []) (fun r _ => r == .flag false) &&
    answers (.setBreakpoint 0x3FFFFF#32) (start 0#32 []) (fun r t => r == .flag true &&
      t.hasBreakpoint 0x3FFFFF#32 && !t.hasBreakpoint 0x400000#32) = true := by decide
theorem test_coprocessor_index :   -- S11
    answers (.readCp0 32) (start 0#32 []) (fun r _ => r == .flag false) &&
    answers (.writeCp1 40 0#64) (start 0#32 []) (fun r t => r == .flag false && t.cpu == (start 0#32 []).cpu) = true := by decide
theorem test_step_after_shutdown :   -- CT18
    hostOp .step { start 0#32 [] with ctl := { Ctl.reset with initialized := false } } = .fatal := by rfl
theorem test_breakpoint_pauses :   -- CT7, CT16: after the cycle, the breakpoint at the new pc
    let s := start 0x104#32 []
    (afterCycle none { s with ctl := { s.ctl with runState := .running, bp := [0x104] } }).ctl.runState = .paused := by
  decide
theorem test_ceiling_stops :   -- CT14
    let s := start 0x104#32 []
    (afterCycle (some 3) { s with ctl := { s.ctl with runState := .running, runCount := 2 } }).ctl.runState =
      .stopped := by decide

/-- The step goes on, and the next state is as expected. -/
def stepGives (s : State) (p : State → Bool) : Bool :=
  match step s with
  | .next t => p t
  | .fault _ => false
  | .refused _ => false

theorem test_run_returns_at_its_end :   -- R156, R176, R178: not at the entry, and after the stop that ends it
    stepGives { start 0x100#32 [] with agenda := [.call (.setRunState .running), .call .stop], replies := [.flag false] }
      (fun t => t.ctl.runState == .running && t.replies == [.flag false] && t.runCall == some (.flag true) &&
        stepGives t (fun u => u.ctl.runState == .stopped && u.replies == [.done, .flag true] && u.runCall == none)) =
      true := by decide
theorem test_run_returns_at_a_breakpoint :   -- R156
    let s := start 0x104#32 []
    let t := afterCycle none { s with
      ctl := { s.ctl with runState := .running, bp := [0x104] }, runCall := some .done, replies := [.flag false] }
    t.ctl.runState = .paused ∧ t.replies = [.done] ∧ t.runCall = none := by decide

theorem test_parameter_constraints :   -- 00_scope.md R8
    Config.dramPbase + Config.dramSize ≤ Config.sramPbase ∧ Config.sramPbase + Config.sramSize ≤ Config.romPbase ∧
    Config.romPbase + Config.romMaxSize ≤ 2 ^ 32 ∧ Config.dramSize ≤ Config.sramVbase ∧
    Config.sramVbase + Config.sramSize ≤ Config.romVbase ∧ Config.romVbase + Config.romMaxSize ≤ Config.kseg0Alias ∧
    Config.kseg0Alias + Config.dramSize ≤ Config.kseg1Alias ∧ Config.kseg1Alias + Config.dramSize ≤ Config.mmioBase ∧
    Config.mmioBase % 16 = 0 ∧ Config.kseg0Alias ≤ Config.excVector.toNat ∧
    Config.excVector.toNat < Config.kseg0Alias + Config.dramSize ∧ 1 ≤ Config.bpTableSize := by decide

/-- The word runs as the first instruction after reset, and the next state is as expected. -/
def runsFirst (w : Nat) (p : State → Bool) : Bool :=
  match step (State.reset.withFetchWord 32 w) with
  | .next t => p t
  | .fault _ => false
  | .refused _ => false

theorem test_first_instruction_addiu :
    decodeTableWord 32 0x2408000A = some (.addiu 8 0 10#16) ∧
    runsFirst 0x2408000A (fun t => t.x 8 == 10#32 && t.cpu.pc == 4#32 && t.mem.memReads == 1#64) = true := by decide
theorem test_first_instruction_syscall :
    runsFirst 0x0000000C (fun t => t.cause == 0x20#32 && t.cpu.pc == 0x80000180#32) = true := by decide

/-! ### Witnesses: states and operands that meet the hypotheses of each statement, clause by clause -/

/-- A state in Running at 0x100 with these words from 0x100 on. -/
def running (ws : List Word) (delay : Delay) (agenda : List HostMove) : State :=
  let s := (start 0x100#32 []).setDelay delay
  { s with
    ctl := { s.ctl with runState := .running }
    runCall := some .done
    mem := s.mem.writeBytes 0x100#32 (ws.flatMap fun w => beBytes w 4)
    agenda := agenda }

/-- A state with these mappings. -/
def mapped (maps : List Mapping) : State :=
  let s := start 0x100#32 []
  { s with mem := { s.mem with maps := maps } }

/-- A state with this controller state. -/
def controlled (ctl : Ctl) : State := { start 0x100#32 [] with ctl := ctl }

/-- The state completes the instruction. -/
def Goes (i : Instr) (s : State) : Prop := ∃ t, exec i s = .next t

/-- `Inv` of a state whose memory arrays are empty and whose ROM and MMIO slots are those after reset. -/
theorem inv_of_plain (s : State) (hx : s.cpu.gpr[0] = 0#32) (hd : s.mem.dram = []) (hs : s.mem.sram = [])
    (hr : s.mem.rom = [] ∧ s.mem.romLoaded = false) (hm : s.mem.mmio = initialMmio)
    (maps : (∀ m ∈ s.mem.maps, m.valid = true) ∧ s.mem.maps.Pairwise (fun m n => m.overlaps n = false))
    (hb : s.ctl.bp.Pairwise (· < ·) ∧ ∀ a ∈ s.ctl.bp, a < Config.bpTableSize)
    (hc : s.ctl.cycles = s.ctl.instructions) (hp : s.ctl.stepReturn = .stopped ∨ s.ctl.stepReturn = .paused)
    (hr' : s.ctl.runState = .running ↔ s.runCall ≠ none) :
    Inv s where
  x0 := hx
  dram := by rw [hd]; exact ⟨by decide, by intro c hc; cases hc⟩
  sram := by rw [hs]; exact ⟨by decide, by intro c hc; cases hc⟩
  rom := by rw [hr.1, hr.2]; decide
  maps := maps
  slots := by rw [hm]; exact ⟨rfl, rfl⟩
  bp := hb
  counters := hc
  stepReturn := hp
  runCall := hr'

theorem witness_DecodeEncode : (Instr.sync 31).wellFormed = true ∧ (Instr.cop2 0x3FFFFFF).wellFormed = true := by
  decide
theorem witness_DecodedFitsItsRow : decode 0x00221FE0#32 = .ok (.add 3 1 2) := by decide
theorem witness_ReservedWord :
    ReservedWord 0x4C000000#32 ∧ ReservedWord 0x0000003D#32 ∧ ReservedWord 0x041F0000#32 ∧ ReservedWord 0x40400000#32 ∧
    ReservedWord 0x42000000#32 := by
  refine ⟨?_, ?_, ?_, ?_, ?_⟩ <;> unfold ReservedWord <;> decide
theorem witness_UnassignedCop1 :
    UnassignedCop1 0x44600000#32 ∧ UnassignedCop1 0x46000020#32 ∧ UnassignedCop1 0x4620002F#32 ∧
    UnassignedCop1 0x46800000#32 ∧ UnassignedCop1 0x46A00022#32 := by
  refine ⟨?_, ?_, ?_, ?_, ?_⟩ <;> unfold UnassignedCop1 <;> decide
theorem witness_CU1 :
    statusCU1 (start 0x100#32 []).status = false ∧ statusCU1 (fpuStart 0 0 0).status = true := by decide
theorem witness_CheckedArithmetic_overflow :
    let s := start 0x100#32 [(1, 0x7FFFFFFF#32), (2, 1#32), (3, 0x80000000#32)]
    2 ^ 31 - 1 < (s.x 1).toInt + (s.x 2).toInt ∧ (s.x 3).toInt - (s.x 2).toInt < -2 ^ 31 ∧
    (s.x 3).toInt + (0xFFFF#16).toInt < -2 ^ 31 ∧ 2 ^ 31 - 1 < (s.x 2).toInt - (s.x 3).toInt := by decide
theorem witness_CheckedArithmetic_fits :
    let s := start 0x100#32 [(1, 0x7FFFFFFF#32), (2, 0#32), (3, 0x80000000#32)]
    (s.x 1).toInt + (s.x 2).toInt = 2 ^ 31 - 1 ∧ (s.x 3).toInt - (s.x 2).toInt = -2 ^ 31 ∧
    (s.x 1).toInt + (0#16).toInt = 2 ^ 31 - 1 := by decide
theorem witness_division :
    let s := start 0x100#32 [(1, 0x80000000#32), (2, 0xFFFFFFFF#32), (3, 7#32), (4, 0xFFFFFFF9#32)]
    ((s.x 1).toInt = -2 ^ 31 ∧ (s.x 2).toInt = -1) ∧ (s.x 0).toInt = 0 ∧ 0 ≤ (s.x 3).toInt ∧ (s.x 4).toInt < 0 ∧
    ((s.x 2).toInt ≠ 0 ∧ ¬ ((s.x 4).toInt = -2 ^ 31 ∧ (s.x 2).toInt = -1)) ∧ (s.x 3).toNat ≠ 0 ∧ (s.x 0).toNat = 0 := by
  decide
theorem witness_outside_a_slot : (start 0x100#32 []).cpu.delay = .none := by decide
theorem witness_branch_conditions :
    let s := start 0x100#32 [(1, 0xFFFFFFFF#32), (2, 1#32)]
    (s.x 1 = s.x 1 ∧ s.x 1 ≠ s.x 2) ∧ ((s.x 0).toInt ≤ 0 ∧ ¬ (s.x 2).toInt ≤ 0) ∧
    (0 < (s.x 2).toInt ∧ ¬ 0 < (s.x 0).toInt) ∧ ((s.x 1).toInt < 0 ∧ ¬ (s.x 0).toInt < 0) ∧
    (0 ≤ (s.x 0).toInt ∧ ¬ 0 ≤ (s.x 1).toInt) := by decide
theorem witness_TransferInSlotRefused :
    ControlTransfer (.beq 0 0 3#16) ∧ ControlTransfer .eret ∧ ((start 0x100#32 []).setDelay .notTaken).cpu.delay ≠ .none ∧
    ((start 0x100#32 []).setDelay (.taken 0x40#32)).cpu.delay ≠ .none :=
  ⟨.beq .., .eret, by decide, by decide⟩
theorem witness_lanes :
    let s := start 0x100#32 [(2, 0x100#32)]
    (addressAt s 2 0#16).toNat % 4 = 0 ∧ (addressAt s 2 1#16).toNat % 4 = 1 ∧ (addressAt s 2 2#16).toNat % 4 = 2 ∧
    (addressAt s 2 0xFFFF#16).toNat % 4 = 3 := by decide
theorem witness_MemoryOk : MemoryOk loadStart := by unfold MemoryOk; decide
theorem witness_UnalignedPairs :
    addressAt loadStart 2 4#16 = addressAt loadStart 2 1#16 + 3#32 ∧ (3 : Reg) ≠ 0 ∧ (3 : Reg) ≠ 2 ∧
    Goes (.lwl 3 2 1#16) loadStart ∧ Goes (.swl 3 2 1#16) loadStart :=
  ⟨by decide, by decide, by decide, ⟨_, rfl⟩, ⟨_, rfl⟩⟩
theorem witness_Plain : loadStart.mem.Plain (addressAt loadStart 2 1#16) 4 ∧
    loadStart.mem.Plain (addressAt loadStart 2 0#16) 8 := by
  unfold MemSys.Plain; decide
theorem witness_LinkedAndOrdering :
    (loadStart.setLL true).cpu.llbit = true ∧ loadStart.cpu.llbit = false ∧ MemoryOk (loadStart.setLL true) :=
  ⟨by decide, by decide, witness_MemoryOk⟩
theorem witness_trap_conditions :
    let s := start 0x100#32 [(1, 0xFFFFFFFF#32), (2, 1#32)]
    ((s.x 1).toInt ≤ (s.x 2).toInt ∧ ¬ (s.x 2).toInt ≤ (s.x 1).toInt) ∧
    ((s.x 2).toNat ≤ (s.x 1).toNat ∧ ¬ (s.x 1).toNat ≤ (s.x 2).toNat) ∧
    ((s.x 1).toInt < (s.x 2).toInt ∧ ¬ (s.x 2).toInt < (s.x 1).toInt) ∧
    ((s.x 2).toNat < (s.x 1).toNat ∧ ¬ (s.x 1).toNat < (s.x 2).toNat) ∧ (s.x 1 = s.x 1 ∧ s.x 1 ≠ s.x 2) ∧
    ((0xFFFF#16).toInt ≤ (s.x 1).toInt ∧ ¬ (2#16).toInt ≤ (s.x 2).toInt) ∧
    ((BitVec.ofInt 32 (0xFFFF#16).toInt).toNat ≤ (s.x 1).toNat ∧
      ¬ (BitVec.ofInt 32 (0xFFFF#16).toInt).toNat ≤ (s.x 2).toNat) ∧
    ((s.x 1).toInt = (0xFFFF#16).toInt ∧ (s.x 2).toInt ≠ (0xFFFF#16).toInt) := by decide
theorem witness_ExceptionReturn :
    statusERL ((start 0x100#32 []).setCp0 12 4#32).status = true ∧ statusERL (start 0x100#32 []).status = false := by
  decide
theorem witness_FpuMoves :
    let s := ((fpuStart 0 0 0).setX 1 0x20000#32).setX 2 0x1080#32
    bitAt (s.x 1) 17 = true ∧ (∃ n, n < 5 ∧ bitAt (s.x 2) (12 + n) = true ∧ bitAt (s.x 2) (7 + n) = true) ∧
    ¬ (bitAt (s.x 0) 17 = true ∨ ∃ n, n < 5 ∧ bitAt (s.x 0) (12 + n) = true ∧ bitAt (s.x 0) (7 + n) = true) :=
  ⟨by decide, ⟨0, by decide⟩, by decide⟩
theorem witness_FpuLoadsAndStores :
    statusCU1 (loadStart.setCp0 12 0x20000000#32).status = true ∧ MemoryOk (loadStart.setCp0 12 0x20000000#32) :=
  ⟨by decide, witness_MemoryOk⟩
theorem witness_FpuBranches :
    bitAt (fpuStart 0 0 0).fcsr 23 = false ∧ bitAt (fpuStart 0 0 0x800000#32).fcsr 23 = true ∧
    (fpuStart 0 0 0).cpu.delay = .none := by decide
theorem witness_CheckCU1First :
    FpuWord 0x460011A0#32 ∧ FpuWord 0xC4420000#32 ∧ FpuWord 0xF4420010#32 ∧ FpuWord 0x45000004#32 ∧
    (opcodeOf 0x45000004#32 = 0x11#6 ∧ rsBits 0x45000004#32 = 8#5) := by
  unfold FpuWord; decide
theorem witness_FpArithmeticFinishes :
    let s := fpuStart 0x7F7FFFFF#64 0x7F7FFFFF#64 0x200#32
    let r := fpAdd .single s.rounding (s.fpValue .single 2) (s.fpValue .single 4)
    r.cause.traps (fcsrEnables s.fcsr) = true ∧ r.cause.traps (fcsrEnables (fpuStart 0 0 0).fcsr) = false := by decide
theorem witness_FpSignAndMove :
    (fpuStart 0x7FC00000#64 0 0).fpValue .single 2 = .nan true ∧
    (fpuStart 0x7FBFFFFF#64 0 0).fpValue .single 2 = .nan false ∧
    (fpuStart 0x7FF8000000000000#64 0 0).fpValue .double 2 = .nan true ∧
    (∀ q, (fpuStart 0 0 0).fpValue .single 2 ≠ .nan q) ∧ (∀ q, (fpuStart 0 0 0).fpValue .double 2 ≠ .nan q) := by
  decide
theorem witness_FpToFloat :
    (fpuStart 0x7FF8000000000000#64 0 0).fpValue .double 2 = .nan true ∧
    (fpuStart 0xFFF0000000000000#64 0 0).fpValue .double 2 = .inf true ∧
    (fpuStart 0x3FF0000000000000#64 0 0).fpValue .double 2 = .finite false (2 ^ 52) (-52) ∧
    (fpuStart 0x7F800000#64 0 0).fpValue .single 2 = .inf false ∧
    (fpuStart 0x3F800000#64 0 0).fpValue .single 2 = .finite false (2 ^ 23) (-23) := by decide

/-- The real value of an encoding, by its parts. -/
theorem real_of_unpack {f : Format} {b m : Nat} {neg : Bool} {e : Int} (h : unpack f b = .finite neg m e) :
    (unpack f b).real = some ((if neg then -1 else 1) * (m : ℝ) * (2 : ℝ) ^ e) := by rw [h]; rfl

theorem real_one : (unpack .single 0x3F800000).real = some 1 := by
  rw [real_of_unpack (show unpack .single 0x3F800000 = .finite false (2 ^ 23) (-23) by decide)]; norm_num
theorem real_minus_one : (unpack .single 0xBF800000).real = some (-1) := by
  rw [real_of_unpack (show unpack .single 0xBF800000 = .finite true (2 ^ 23) (-23) by decide)]; norm_num
theorem real_zero : (unpack .single 0).real = some 0 := by
  rw [real_of_unpack (show unpack .single 0 = .finite false 0 (-149) by decide)]; norm_num

theorem witness_FpSums : ∃ x y z : ℝ, (unpack .single 0x3F800000).real = some x ∧
    (unpack .single 0xBF800000).real = some y ∧ (unpack .single 0).real = some z ∧ x + y = 0 ∧ x + z ≠ 0 ∧
    0x3F800000 < 2 ^ Format.single.width ∧ 2 ^ 64 - 1 < 2 ^ Format.double.width :=
  ⟨1, -1, 0, real_one, real_minus_one, real_zero, by norm_num, by norm_num, by decide, by decide⟩
theorem witness_FpProducts_FpQuotients : ∃ x z : ℝ, (unpack .single 0x3F800000).real = some x ∧
    (unpack .single 0).real = some z ∧ x * z = 0 ∧ x * x ≠ 0 ∧ x ≠ 0 ∧ z = 0 :=
  ⟨1, 0, real_one, real_zero, by norm_num, by norm_num, by norm_num, rfl⟩
theorem witness_FpRoots : ∃ x y z : ℝ, (unpack .single 0x3F800000).real = some x ∧
    (unpack .single 0xBF800000).real = some y ∧ (unpack .single 0).real = some z ∧ 0 < x ∧ y < 0 ∧ z = 0 :=
  ⟨1, -1, 0, real_one, real_minus_one, real_zero, by norm_num, by norm_num, rfl⟩
theorem witness_FpToInteger : ∃ x : ℝ, (unpack .single 0x3F800000).real = some x ∧ RoundsToInt .down x 1 ∧
    (unpack .single 0x7F800000).real = none :=
  ⟨1, real_one, by simp [RoundsToInt], by rw [show unpack .single 0x7F800000 = .inf false by decide]; rfl⟩
theorem witness_FpCompare : (fpuStart 0x7FC00000#64 0 0).fpValue .single 2 = .nan true ∧
    ((fpuStart 0x7FBFFFFF#64 0 0).fpValue .single 2 ≠ .nan true ∧ (2#4).getLsbD 3 = false) ∧
    ∃ x, ((unpack .single 0x3F800000).extended) = some x := by
  refine ⟨by decide, by decide, (1 : ℝ), ?_⟩
  have h := real_one
  rw [show unpack .single 0x3F800000 = .finite false (2 ^ 23) (-23) by decide] at h ⊢
  simp only [FpValue.extended, h, Option.map_some]
theorem witness_TrapEntry :
    statusEXL ((start 0x100#32 []).setCp0 12 2#32).status = true ∧ statusEXL (start 0x100#32 []).status = false := by
  decide
theorem witness_BoundaryPriority :
    let s := ((start 0x100#32 []).setCp0 12 0x8001#32).setCp0 13 0x8000#32
    s.ctl.pendingExc = none ∧ bitAt s.status 0 = true ∧ bitAt s.status 1 = false ∧ bitAt s.status 2 = false ∧
    (∃ n, n < 8 ∧ bitAt s.cause (8 + n) = true ∧ bitAt s.status (8 + n) = true) ∧
    (controlled { Ctl.reset with pendingExc := some ⟨8#5, 0#2⟩ }).ctl.pendingExc = some ⟨8#5, 0#2⟩ :=
  ⟨by decide, by decide, by decide, by decide, ⟨7, by decide⟩, by decide⟩
theorem witness_StepRunsTheDecodedInstruction :
    let s := running [0x00221820#32] .none [.yield]
    s.ctl.initialized = true ∧ s.mem.memReady = true ∧ s.ctl.runState = .running ∧ s.agenda = .yield :: [] ∧
    (boundary s).mem.Holds (boundary s).cpu.pc 4 0x00221820#32 ∧ decode 0x00221820#32 = .ok (.add 3 1 2) ∧
    Goes (.add 3 1 2) (boundary s).countRead :=
  ⟨rfl, rfl, rfl, rfl, by unfold MemSys.Holds; decide, by decide, ⟨_, rfl⟩⟩
theorem witness_StepRunsTheDecodedInstruction_refused :
    let s := running [0x10000003#32] (.taken 0x40#32) []
    s.agenda = [] ∧ (boundary s).mem.Holds (boundary s).cpu.pc 4 0x10000003#32 ∧
    decode 0x10000003#32 = .ok (.beq 0 0 3#16) ∧
    exec (.beq 0 0 3#16) (boundary s).countRead = .refused .controlTransferInDelaySlot :=
  ⟨rfl, by unfold MemSys.Holds; decide, by decide, rfl⟩
theorem witness_HostStepRunsOneInstruction :
    let s := { start 0x100#32 [] with agenda := [.call .step] }
    s.ctl.initialized = true ∧ s.mem.memReady = true ∧ s.agenda = .call .step :: [] ∧ s.ctl.runState = .stopped ∧
    (∃ t, executeOne (boundary s).fetchWord (boundary s).countRead = .next t) ∧
    (running [] .none [.call .step]).ctl.runState = .running :=
  ⟨rfl, rfl, rfl, rfl, ⟨_, rfl⟩, rfl⟩
theorem witness_ChecksAfterACycle :
    let s := controlled { Ctl.reset with bp := [0x100], runCount := 2 }
    (s.cpu.pc.toNat < Config.bpTableSize ∧ s.cpu.pc.toNat ∈ s.ctl.bp) ∧ 3 ≤ s.ctl.runCount + 1 ∧
    s.ctl.runCount + 1 < 4 ∧ Config.bpTableSize ≤ (start 0x400000#32 []).cpu.pc.toNat ∧
    (start 0x104#32 []).cpu.pc.toNat ∉ s.ctl.bp := by decide
theorem witness_ChecksAfterACycle_returns :
    let s := running [] .none []
    (afterCycle none s).ctl.runState = .running ∧ s.runCall = some .done ∧
    (afterCycle (some 1) s).ctl.runState ≠ .running := by decide
theorem witness_EveryInstructionCompletes :
    ¬ (ControlTransfer (.add 3 1 2) ∧ (start 0x100#32 []).cpu.delay ≠ .none) ∧
    ¬ (ControlTransfer (.j 0#26) ∧ (start 0x100#32 []).cpu.delay ≠ .none) :=
  ⟨fun h => h.2 rfl, fun h => h.2 rfl⟩
theorem witness_OnlyTransfersBranch :
    ¬ ControlTransfer (.add 3 1 2) ∧ ¬ ControlTransfer (.syscall 0) ∧ Goes (.add 3 1 2) (start 0x100#32 []) ∧
    Goes (.syscall 0) (start 0x100#32 []) :=
  ⟨(fun h => by cases h), (fun h => by cases h), ⟨_, rfl⟩, ⟨_, rfl⟩⟩
theorem witness_WholeMachineFrame :
    Goes (.sw 3 2 0#16) loadStart ∧ Goes (.ll 3 2 0#16) loadStart ∧ Goes (.sc 3 2 0#16) loadStart ∧
    Goes .eret loadStart ∧ Goes (.mult 1 2) loadStart :=
  ⟨⟨_, rfl⟩, ⟨_, rfl⟩, ⟨_, rfl⟩, ⟨_, rfl⟩, ⟨_, rfl⟩⟩
theorem witness_Inv : Inv (start 0x100#32 []) :=
  inv_of_plain _ rfl rfl rfl ⟨rfl, rfl⟩ rfl (by decide) (by decide) rfl (by decide) (by decide)
theorem witness_InvariantKept :
    Inv { start 0x100#32 [] with agenda := [.call (.setBreakpoint 0x40#32)] } ∧
    ∃ t, step { start 0x100#32 [] with agenda := [.call (.setBreakpoint 0x40#32)] } = .next t :=
  ⟨inv_of_plain _ rfl rfl rfl ⟨rfl, rfl⟩ rfl (by decide) (by decide) rfl (by decide) (by decide), ⟨_, rfl⟩⟩
theorem witness_ExecModeIrrelevant :
    (∃ t, cycle (running [0x00221820#32] .none []) = .next t) ∧
    cycle (controlled { Ctl.reset with initialized := false }) = .fault .fatal :=
  ⟨⟨_, rfl⟩, rfl⟩
theorem witness_ExecModeIrrelevant_refused :
    gives 0x10000003#32 ((start 0x104#32 []).setDelay (.taken 0x40#32)) (fun _ => true) = false ∧
    cycle (running [0x10000003#32] (.taken 0x40#32) []) = .refused .controlTransferInDelaySlot := ⟨rfl, rfl⟩
theorem witness_FatalExactly :
    step (controlled { Ctl.reset with initialized := false, runState := .running }) = .fault .fatal ∧
    step (controlled { Ctl.reset with initialized := false, runState := .stepping }) = .fault .fatal ∧
    step { controlled { Ctl.reset with initialized := false, runState := .running } with agenda := [.yield] } =
      .fault .fatal ∧
    step { controlled { Ctl.reset with initialized := false } with agenda := [.call .run] } = .fault .fatal ∧
    step { controlled { Ctl.reset with initialized := false } with agenda := [.call .step] } = .fault .fatal ∧
    step { controlled { Ctl.reset with initialized := false } with agenda := [.call (.setRunState .running)] } =
      .fault .fatal ∧
    step { State.reset with mem := { MemSys.reset with memReady := false }, agenda := [.call .init] } =
      .fault .fatal :=
  ⟨rfl, rfl, rfl, rfl, rfl, rfl, rfl⟩
theorem witness_Translation :
    let n : Mapping := ⟨0#32, 0#32, 0x100#32⟩
    let m : Mapping := ⟨0x100#32, 0xFFFFFF00#32, 0x100#32⟩
    (∀ va ∈ [0x100#32, 0x1FF#32], (∀ k ∈ [n], ¬ (k.vbase.toNat ≤ va.toNat ∧ va.toNat < k.vbase.toNat + k.size.toNat)) ∧
      m.vbase.toNat ≤ va.toNat ∧ va.toNat < m.vbase.toNat + m.size.toNat) ∧
    m.pbase.toNat + m.size.toNat ≤ 2 ^ 32 ∧
    ∀ k ∈ [n, m], ¬ (k.vbase.toNat ≤ (0x200#32).toNat ∧ (0x200#32).toNat < k.vbase.toNat + k.size.toNat) := by
  simp
theorem witness_InitialMemoryMap :
    (0x3FFFFF#32).toNat < 0x400000 ∧ 0x80000000 ≤ (0x80000000#32).toNat ∧ (0x803FFFFF#32).toNat < 0x80400000 ∧
    0xA0000000 ≤ (0xA0000000#32).toNat ∧ (0xA03FFFFF#32).toNat < 0xA0400000 ∧ 0x4000000 ≤ (0x4000000#32).toNat ∧
    (0x4007FFF#32).toNat < 0x4008000 ∧ 0xC0000000 ≤ (0xC0000000#32).toNat ∧
    (∀ va ∈ [0x400000#32, 0x3FFFFFF#32, 0x4008000#32, 0x7FFFFFFF#32, 0x80400000#32, 0xA0400000#32, 0xBFFFFFFF#32],
      ¬ va.toNat < 0x400000 ∧ ¬ (0x80000000 ≤ va.toNat ∧ va.toNat < 0x80400000) ∧
      ¬ (0xA0000000 ≤ va.toNat ∧ va.toNat < 0xA0400000) ∧ ¬ (0x4000000 ≤ va.toNat ∧ va.toNat < 0x4008000) ∧
      va.toNat < 0xC0000000) := by simp
theorem witness_OneByte :
    let m := (start 0x100#32 []).mem
    MemoryOk (start 0x100#32 []) ∧ m.placeOf 0x80000010#32 = m.placeOf 0x10#32 ∧ (m.placeOf 0x10#32).writable = true ∧
    m.region 0x400000#32 = .unmapped := by unfold MemoryOk; decide
theorem witness_OneByte_rom :
    { (start 0x100#32 []).mem with rom := [0xAB#8], romLoaded := true }.region 0x10000000#32 = .rom := by decide
theorem witness_MmioSlots :
    (0xC0000000 ≤ (0xC0000003#32).toNat ∧
      ∀ i ∈ List.range' 1 6, ¬ (0xC0000000 + 16 * i ≤ (0xC0000003#32).toNat ∧ (0xC0000003#32).toNat < 0xC0000000 + 16 * i + 4)) ∧
    (0xC0000000 ≤ (0xC0000074#32).toNat ∧
      ∀ i ∈ List.range 8, ¬ (0xC0000000 + 16 * i ≤ (0xC0000074#32).toNat ∧ (0xC0000074#32).toNat < 0xC0000000 + 16 * i + 4)) := by
  decide
theorem witness_StoreThenFetch :
    Goes (.sw 3 2 1#16) loadStart ∧ Goes (.sdc1 2 2 0#16) (loadStart.setCp0 12 0x20000000#32) :=
  ⟨⟨_, rfl⟩, ⟨_, rfl⟩⟩
theorem witness_MapAndUnmap :
    let m : Mapping := ⟨0xFFFFFF00#32, 0xFFFFFF00#32, 0x100#32⟩
    (1 ≤ m.size.toNat ∧ m.vbase.toNat + m.size.toNat ≤ 2 ^ 32 ∧ m.pbase.toNat + m.size.toNat ≤ 2 ^ 32 ∧
      ∀ n ∈ initialMaps, ¬ (m.vbase.toNat < n.vbase.toNat + n.size.toNat ∧ n.vbase.toNat < m.vbase.toNat + m.size.toNat)) ∧
    (∀ n ∈ initialMaps, n.vbase ≠ m.vbase) ∧
    (start 0x100#32 []).mem.maps = [] ++ ⟨0#32, 0#32, 0x400000#32⟩ :: initialMaps.tail := by decide
theorem witness_LoadRom :
    Inv (mapped [⟨0x10000003#32, 0#32, 4#32⟩]) ∧
    (∃ n ∈ (mapped [⟨0x10000003#32, 0#32, 4#32⟩]).mem.maps, n.vbase.toNat ≠ 0x10000000 ∧
      0x10000000 < n.vbase.toNat + n.size.toNat ∧ n.vbase.toNat < 0x10000000 + [1#8, 2#8, 3#8, 4#8].length) ∧
    (∀ n ∈ (mapped [⟨0x10000003#32, 0#32, 4#32⟩]).mem.maps, n.vbase.toNat ≠ 0x10000000 →
      ¬ (0x10000000 < n.vbase.toNat + n.size.toNat ∧ n.vbase.toNat < 0x10000000 + [1#8, 2#8, 3#8].length)) ∧
    0 < [1#8, 2#8, 3#8].length ∧ [1#8, 2#8, 3#8].length ≤ Config.romMaxSize ∧ ([] : List Byte).length = 0 :=
  ⟨inv_of_plain _ rfl rfl rfl ⟨rfl, rfl⟩ rfl (by decide) (by decide) rfl (by decide) (by decide),
    ⟨_, List.mem_cons_self .., by decide⟩, by decide, by decide, by decide, rfl⟩
theorem witness_LoadRom_replaces :
    let s := mapped [⟨0x10000000#32, 0x10000000#32, 4#32⟩, ⟨0#32, 0#32, 4#32⟩]
    Inv s ∧ (∀ n ∈ s.mem.maps, n.vbase.toNat ≠ 0x10000000 →
      ¬ (0x10000000 < n.vbase.toNat + n.size.toNat ∧ n.vbase.toNat < 0x10000000 + [1#8, 2#8, 3#8].length)) ∧
    ∃ n ∈ s.mem.maps, n.vbase = 0x10000000#32 :=
  ⟨inv_of_plain _ rfl rfl rfl ⟨rfl, rfl⟩ rfl (by decide) (by decide) rfl (by decide) (by decide), by decide, by decide⟩
theorem witness_MemoryCounters :
    Goes (.lw 3 2 0#16) loadStart ∧ Goes (.sw 3 2 0#16) loadStart ∧ Goes (.sc 3 2 0#16) loadStart ∧
    Goes (.lwc1 2 2 0#16) loadStart ∧ Goes (.add 3 1 2) loadStart ∧
    hostOp .memResetStatistics loadStart = .ok .done { loadStart with mem := { loadStart.mem with memReads := 0, memWrites := 0 } } ∧
    (∃ r t, hostOp .memInit loadStart = .ok r t) ∧ (∃ r t, hostOp .pause loadStart = .ok r t) ∧
    (∃ t, hostOp .run loadStart = .entered t) :=
  ⟨⟨_, rfl⟩, ⟨_, rfl⟩, ⟨_, rfl⟩, ⟨_, rfl⟩, ⟨_, rfl⟩, rfl, ⟨_, _, rfl⟩, ⟨_, _, rfl⟩, ⟨_, rfl⟩⟩
theorem witness_MemoryCounters_turns :
    decode 0x0000003D#32 = .error .reservedInstruction ∧ (∃ t, executeOne 0x0000003D#32 loadStart = .next t) ∧
    (∃ t, controllerTurn (running [0x00221820#32] .none []) = .next t) ∧
    (running [0x00221820#32] .none []).ctl.runState = .running ∧
    (∃ t, controllerTurn loadStart = .next t) ∧ loadStart.ctl.runState = .stopped :=
  ⟨by decide, ⟨_, rfl⟩, ⟨_, rfl⟩, rfl, ⟨_, rfl⟩, rfl⟩
theorem witness_RunStateOperations :
    (running [] .none []).ready = true ∧ (running [] .none []).ctl.runState = .running ∧
    (start 0x100#32 []).ready = true ∧ (start 0x100#32 []).ctl.runState ≠ .running := by decide
theorem witness_Breakpoints :
    Inv (start 0x100#32 []) ∧ (0x3FFFFF#32).toNat < Config.bpTableSize ∧ Config.bpTableSize ≤ (0x400000#32).toNat :=
  ⟨witness_Inv, by decide, by decide⟩
theorem witness_CoprocessorAccessors :
    (31 : Int) = ((31 : Reg).val : Int) ∧ (0 : Int) = ((0 : Reg).val : Int) ∧ (-1 : Int) < 0 ∧ (31 : Int) < 32 := by decide
theorem witness_HostExceptions :
    (start 0x100#32 []).ctl.pendingExc = none ∧ ((0 : Int) ≤ 31 ∧ (31 : Int) ≤ 31 ∧ (0 : Int) ≤ 3 ∧ (3 : Int) ≤ 3) ∧
    (31 : Int) < 32 ∧ (3 : Int) < 4 ∧ (-1 : Int) < 0 ∧
    (controlled { Ctl.reset with pendingExc := some ⟨31#5, 3#2⟩ }).ctl.pendingExc = some ⟨31#5, 3#2⟩ := by decide
theorem witness_Lifecycle :
    (start 0x100#32 []).mem.memReady = true ∧
    { start 0x100#32 [] with mem := { MemSys.reset with memReady := false } }.mem.memReady = false := by decide
theorem witness_HostMovesBetweenCycles :
    let s := { start 0x100#32 [] with agenda := [.call .pause] }
    s.ctl.runState ≠ .stepping ∧ s.agenda = .call .pause :: [] ∧
    hostOp .pause { s with agenda := [] } = .ok .done { s with agenda := [] } ∧
    s.runCall = none ∧ hostOp .run (controlled { Ctl.reset with initialized := false }) = .fatal ∧
    (∃ t, hostOp .run s = .entered t) ∧
    ∃ t, hostOp .stop (running [] .none []) = .ok .done t ∧ t.ctl.runState ≠ .running ∧ t.runCall = some .done :=
  ⟨by decide, rfl, rfl, rfl, rfl, ⟨_, rfl⟩, ⟨_, rfl, by decide, rfl⟩⟩
theorem witness_PreciseExceptions :
    ∃ t, exec (.syscall 0) (start 0x100#32 []) = .next t ∧ statusEXL (start 0x100#32 []).status = false ∧
      statusEXL t.status = true ∧ ∀ rt rd, Instr.syscall 0 ≠ .mtc0 rt rd :=
  ⟨_, rfl, by decide, by decide, fun _ _ h => by cases h⟩
theorem witness_PreciseExceptions_nested :
    let s := (start 0x100#32 []).setCp0 12 2#32
    statusEXL s.status = true ∧ Goes (.syscall 0) s ∧ Goes (.add 3 1 2) s ∧ Goes (.j 0#26) s ∧ Goes .eret s :=
  ⟨by decide, ⟨_, rfl⟩, ⟨_, rfl⟩, ⟨_, rfl⟩, ⟨_, rfl⟩⟩

end Sys2Proof.Tests
end

section
/-! SUPPORT. The family 10_state: the state after reset, the invariant that every step keeps, and what no instruction
changes. -/

namespace Sys2Proof.Machine

/-! ### The invariant by the parts of the state -/

/-- Every mapping is valid and no two overlap (20_memory.md R65, R67). -/
def MapsOk (l : List Mapping) : Prop :=
  (∀ n ∈ l, n.valid = true) ∧ l.Pairwise (fun a b => a.overlaps b = false)

/-- The clauses of `Inv` about memory. -/
structure MemSys.Ok (m : MemSys) : Prop where
  arrays : m.arraysOk
  rom : m.rom.length ≤ Config.romMaxSize ∧ (m.romLoaded = true ↔ m.rom ≠ [])
  maps : MapsOk m.maps
  slots : m.mmio[0] = Config.mmioInit 0 ∧ m.mmio[7] = Config.mmioInit 7

/-- The clauses of `Inv` about the controller. -/
structure Ctl.Ok (c : Ctl) : Prop where
  bp : c.bp.Pairwise (· < ·) ∧ ∀ a ∈ c.bp, a < Config.bpTableSize
  counters : c.cycles = c.instructions
  stepReturn : c.stepReturn = .stopped ∨ c.stepReturn = .paused

/-- `Inv` but for one thing: a run that has just ended may not have returned yet (40_controller.md R178). -/
structure PreInv (s : State) : Prop where
  x0 : s.cpu.gpr[0] = 0#32
  mem : s.mem.Ok
  ctl : s.ctl.Ok
  runCall : s.ctl.runState = .running → s.runCall ≠ none

theorem inv_iff (s : State) : Inv s ↔ PreInv s ∧ (s.runCall ≠ none → s.ctl.runState = .running) where
  mp h := ⟨⟨h.x0, ⟨⟨h.dram, h.sram⟩, h.rom, h.maps, h.slots⟩, ⟨h.bp, h.counters, h.stepReturn⟩, h.runCall.mp⟩,
    h.runCall.mpr⟩
  mpr := fun ⟨h, hr⟩ =>
    { x0 := h.x0
      dram := h.mem.arrays.1
      sram := h.mem.arrays.2
      rom := h.mem.rom
      maps := h.mem.maps
      slots := h.mem.slots
      bp := h.ctl.bp
      counters := h.ctl.counters
      stepReturn := h.ctl.stepReturn
      runCall := ⟨h.runCall, hr⟩ }

theorem Inv.pre {s : State} (h : Inv s) : PreInv s := ((inv_iff s).mp h).1

/-- The return of `run` restores the whole invariant. -/
theorem PreInv.returnRun {s : State} (h : PreInv s) (before : List HostReply) : Inv (s.returnRun before) := by
  refine (inv_iff _).mpr ⟨⟨h.x0, h.mem, h.ctl, fun hr => ?_⟩, fun hc => ?_⟩
  · rw [State.returnRun_ctl] at hr
    rw [State.returnRun_runCall, if_pos hr]
    exact h.runCall hr
  · by_contra hr
    rw [State.returnRun_ctl] at hr
    rw [State.returnRun_runCall, if_neg hr] at hc
    exact hc rfl

/-! ### The state after reset -/

theorem MemSys.reset_ok : MemSys.reset.Ok where
  arrays := ⟨⟨by decide, nofun⟩, by decide, nofun⟩
  rom := by decide
  maps := ⟨by decide, by decide⟩
  slots := ⟨rfl, rfl⟩

theorem Ctl.reset_ok : Ctl.reset.Ok where
  bp := ⟨.nil, nofun⟩
  counters := rfl
  stepReturn := .inl rfl

/-- Settles O42: each part of the state after reset meets its clauses, and no run is in progress. -/
theorem invariantAtReset : Obligations.InvariantAtReset :=
  (inv_iff _).mpr ⟨⟨rfl, MemSys.reset_ok, Ctl.reset_ok, nofun⟩, fun h => absurd rfl h⟩

theorem getElem_initialMmio (i : Fin 8) : initialMmio[i.val] = Config.mmioInit i := by
  fin_cases i <;> rfl

/-- Settles O58: each field holds the value of its table; no cell of DRAM or SRAM is listed. -/
theorem resetValues : Obligations.ResetValues := by
  have regs (r : Reg) : State.reset.x r = 0#32 ∧ State.reset.cp0 r = 0#32 ∧ State.reset.fpr r = 0#64 ∧
      State.reset.fcr r = 0#32 := by
    simp [State.x, State.cp0, State.fpr, State.fcr, State.reset, Cpu.reset]
  have noBreakpoint (a : Word) : State.reset.hasBreakpoint a = false := by
    simp [State.hasBreakpoint, State.reset, Ctl.reset]
  exact ⟨regs, rfl, rfl, rfl, rfl, rfl, rfl, rfl, rfl, rfl, rfl, rfl, rfl, rfl, rfl, noBreakpoint,
    fun _ => ⟨rfl, rfl⟩, rfl, rfl, rfl, getElem_initialMmio, rfl⟩


/-! ### What a cycle changes -/

/-- All that the cycle of an instruction can do beside the registers it writes: one memory access, and the count of
the cycle (40_controller.md R143, R150). -/
structure CycleEffect (s t : State) : Prop where
  x0 : t.cpu.gpr[0] = s.cpu.gpr[0]
  mem : MemEffect s.mem t.mem
  ctl : t.ctl = s.count.ctl
  agenda : t.agenda = s.agenda
  runCall : t.runCall = s.runCall
  replies : t.replies = s.replies

theorem Effect.sequence {s u : State} (h : Effect s u) (out : Out) : CycleEffect s (sequence out u.count) where
  x0 := by rw [sequence_gpr]; exact h.x0
  mem := by simpa using h.mem
  ctl := by rw [sequence_ctl, State.count, h.ctl]; rfl
  agenda := by simpa using h.agenda
  runCall := by simpa using h.runCall
  replies := by simpa using h.replies

theorem Effect.trapEntry {s u : State} (h : Effect s u) (code : BitVec 5) (ce : BitVec 2) :
    CycleEffect s (trapEntry code ce u.count) := by
  obtain ⟨hgpr, hmem, hctl, hagenda, hrunCall, hreplies⟩ := trapEntry_keeps code ce u.count
  exact
    { x0 := by rw [hgpr]; exact h.x0
      mem := by rw [hmem]; exact h.mem
      ctl := by rw [hctl, State.count, h.ctl]; rfl
      agenda := hagenda.trans h.agenda
      runCall := hrunCall.trans h.runCall
      replies := hreplies.trans h.replies }

theorem Ends.cycleEffect {i : Instr} {s t : State} {r : Result} (h : Ends i s r) (hr : r = .next t) :
    CycleEffect s t := by
  cases h with
  | completes u hu => cases hr; exact hu.sequence .next
  | raises e ce u hu => cases hr; exact hu.trapEntry e.code ce
  | transfers out u hu => cases hr; exact hu.sequence out
  | refuses => cases hr

theorem exec_cycleEffect {i : Instr} {s t : State} (h : exec i s = .next t) : CycleEffect s t :=
  (exec_ends i s).cycleEffect h

/-- A word that is no instruction ends as an instruction outside the control-transfer class does (45_system.md R323,
47_fpu_arith.md R361). -/
theorem ends_execRejected {i : Instr} (r : Rejection) (s : State) (hi : ¬ ControlTransfer i) :
    Ends i s (execRejected r s) := by
  cases r with
  | reservedInstruction => exact ends_raise .reservedInstruction 0#2 hi
  | unimplementedCop1 => exact ends_checkCU1 (fun h => absurd h hi) (ends_fpFinish _ (fun t => .refl t) hi)

theorem executeOne_cycleEffect {w : Word} {s t : State} (h : executeOne w s = .next t) : CycleEffect s t := by
  unfold executeOne at h
  split at h
  · exact exec_cycleEffect h
  · exact (ends_execRejected (i := .sync 0) _ s (not_control rfl)).cycleEffect h

/-- What no memory access changes (10_state.md R44; 20_memory.md R75, R76). -/
theorem MemEffect.frame {m n : MemSys} (h : MemEffect m n) :
    n.rom = m.rom ∧ n.romLoaded = m.romLoaded ∧ n.maps = m.maps ∧ n.memReady = m.memReady ∧
      n.mmio[0] = m.mmio[0] ∧ n.mmio[7] = m.mmio[7] := by
  cases h with
  | none => exact ⟨rfl, rfl, rfl, rfl, rfl, rfl⟩
  | read => exact ⟨rfl, rfl, rfl, rfl, rfl, rfl⟩
  | write va bs =>
    exact ⟨m.writeBytes_rom va bs, m.writeBytes_romLoaded va bs, m.writeBytes_maps va bs, m.writeBytes_memReady va bs,
      m.writeBytes_readOnlySlots va bs⟩

theorem MemEffect.arraysOk {m n : MemSys} (h : MemEffect m n) (hm : m.arraysOk) : n.arraysOk := by
  cases h with
  | none => exact hm
  | read => exact hm
  | write va bs => exact MemSys.writeBytes_arraysOk va bs hm

/-! ### HI, LO and `llbit` -/

/-- HI, LO and `llbit` (10_state.md R21, R24). -/
def State.hiLoLL (s : State) : Word × Word × Bool := (s.cpu.hi, s.cpu.lo, s.cpu.llbit)

/-- The instructions that write HI or LO (10_state.md R21). -/
def writesHiLo : Instr → Bool
  | .mult _ _ | .multu _ _ | .div _ _ | .divu _ _ | .mthi _ | .mtlo _ => true
  | _ => false

/-- `llbit` after an instruction (10_state.md R24, 44_loadstore.md R298). -/
def llbitAfter (i : Instr) (old : Bool) : Bool :=
  match i with
  | .ll _ _ _ => true
  | .sc _ _ _ | .eret => false
  | _ => old

/-- Every next state that the result holds has these HI, LO and `llbit`. -/
structure Leaves (v : Word × Word × Bool) (r : Result) : Prop where
  next : ∀ t, r = .next t → t.hiLoLL = v

/-- The result is as the rules for HI, LO and `llbit` say. -/
def HiLoLLRule (i : Instr) (s : State) (r : Result) : Prop :=
  ∀ t, r = .next t → (writesHiLo i = false → t.cpu.hi = s.cpu.hi ∧ t.cpu.lo = s.cpu.lo) ∧
    t.cpu.llbit = llbitAfter i s.cpu.llbit

theorem Leaves.rule {i : Instr} {s : State} {r : Result} {v : Word × Word × Bool} (h : Leaves v r)
    (hhl : writesHiLo i = false → v.1 = s.cpu.hi ∧ v.2.1 = s.cpu.lo) (hll : v.2.2 = llbitAfter i s.cpu.llbit) :
    HiLoLLRule i s r := by
  intro t ht
  obtain rfl := h.next t ht
  exact ⟨hhl, hll⟩

theorem Leaves.unchanged {i : Instr} {s : State} {r : Result} (h : Leaves s.hiLoLL r)
    (hll : llbitAfter i s.cpu.llbit = s.cpu.llbit) : HiLoLLRule i s r := h.rule (fun _ => ⟨rfl, rfl⟩) hll.symm

section
variable {s : State} {v : Word × Word × Bool} {body : Result}

theorem State.setX_hiLoLL (s : State) (d : Reg) (x : Word) : (s.setX d x).hiLoLL = s.hiLoLL := by
  simp [State.hiLoLL]

theorem leaves_finish (out : Out) (s : State) : Leaves s.hiLoLL (finish out s) := by
  constructor
  rintro t ⟨⟩
  simp [State.hiLoLL]

theorem leaves_raiseWith (e : Exception) (ce : BitVec 2) (s : State) : Leaves s.hiLoLL (raiseWith e ce s) := by
  constructor
  rintro t ⟨⟩
  obtain ⟨-, only, -⟩ := trapEntry_spec e.code ce s.count
  simp [State.hiLoLL, only.hi (by simp [trapParts]), only.lo (by simp [trapParts]), only.llbit (by simp [trapParts])]

theorem leaves_writeGpr (d : Reg) (x : Word) (s : State) : Leaves s.hiLoLL (writeGpr d x s) := by
  rw [← State.setX_hiLoLL s d x]
  exact leaves_finish .next _

theorem leaves_loadInto (rt : Reg) (va : Word) (w n : Nat) (extend : BitVec w → Word) (s : State) :
    Leaves s.hiLoLL (loadInto rt va w n extend s) := leaves_writeGpr _ _ s.countRead

theorem leaves_storeBytes (va : Word) (bs : List Byte) (s : State) : Leaves s.hiLoLL (storeBytes va bs s) :=
  leaves_finish .next (s.memWrite va bs)

theorem leaves_writeChecked (d : Reg) (x : Int) (s : State) : Leaves s.hiLoLL (writeChecked d x s) := by
  unfold writeChecked
  split
  · exact leaves_raiseWith ..
  · exact leaves_writeGpr ..

theorem leaves_trapIf (c : Bool) (s : State) : Leaves s.hiLoLL (trapIf c s) := by
  unfold trapIf
  split
  · exact leaves_raiseWith ..
  · exact leaves_finish ..

theorem leaves_controlTransfer (h : Leaves v body) : Leaves v (controlTransfer s body) := by
  unfold controlTransfer
  split
  · exact h
  · exact ⟨fun _ h => by cases h⟩

theorem leaves_checkCU1 (h : Leaves s.hiLoLL body) : Leaves s.hiLoLL (checkCU1 s body) := by
  unfold checkCU1
  split
  · exact h
  · exact leaves_raiseWith ..

theorem leaves_fpFinish (c : FpCause) {write : State → State} (hw : ∀ u, (write u).hiLoLL = u.hiLoLL) (s : State) :
    Leaves s.hiLoLL (fpFinish c write s) := by
  unfold fpFinish
  split
  · exact leaves_raiseWith .floatingPoint 0#2 (s.setFpCause c)
  · rw [show s.hiLoLL = ((s.setFpCause c).raiseFlags c).hiLoLL from rfl, ← hw]
    exact leaves_finish .next _

theorem leaves_fpWrite (f : Format) (r : FpResult) (fd : Reg) (s : State) : Leaves s.hiLoLL (fpWrite f r fd s) :=
  leaves_fpFinish _ (fun _ => by cases f <;> rfl) s

theorem leaves_fpToWord (rm : Rounding) (f : Format) (fd fs : Reg) (s : State) :
    Leaves s.hiLoLL (fpToWord rm f fd fs s) :=
  leaves_checkCU1 (leaves_fpFinish _ (write := fun u => u.setViewW fd _) (fun _ => rfl) s)

theorem leaves_fpToLong (rm : Rounding) (f : Format) (fd fs : Reg) (s : State) :
    Leaves s.hiLoLL (fpToLong rm f fd fs s) :=
  leaves_checkCU1 (leaves_fpFinish _ (write := fun u => u.setViewD fd _) (fun _ => rfl) s)

theorem leaves_fpCondition (cond : BitVec 4) (f : Format) (fs ft : Reg) (s : State) :
    Leaves s.hiLoLL (fpCondition cond f fs ft s) :=
  leaves_checkCU1 (leaves_fpFinish _ (write := fun u => u.setCond _) (fun _ => rfl) s)

theorem leaves_link (out : Out) (s : State) : Leaves s.hiLoLL (finish out s.link) := by
  rw [← State.setX_hiLoLL s regRA (linkValue s)]
  exact leaves_finish out _

theorem leaves_ctc1 (rt fs : Reg) (s : State) : Leaves s.hiLoLL (execCtc1 rt fs s) := by
  refine leaves_checkCU1 ?_
  dsimp only
  split
  · exact leaves_raiseWith .floatingPoint 0#2 (s.setFcr fs (s.x rt))
  · exact leaves_finish .next (s.setFcr fs (s.x rt))

theorem leaves_lwl (rt base : Reg) (offset : BitVec 16) (s : State) :
    Leaves s.hiLoLL (execLwl rt base offset s) := by
  unfold execLwl
  exact leaves_loadInto ..

theorem leaves_lwr (rt base : Reg) (offset : BitVec 16) (s : State) :
    Leaves s.hiLoLL (execLwr rt base offset s) := by
  unfold execLwr
  exact leaves_loadInto ..

theorem leaves_sc (rt base : Reg) (offset : BitVec 16) (s : State) :
    Leaves (s.cpu.hi, s.cpu.lo, false) (execSc rt base offset s) := by
  unfold execSc
  split
  · exact leaves_writeGpr rt 1#32 ((s.memWrite _ _).setLL false)
  · exact leaves_writeGpr rt 0#32 (s.setLL false)

theorem leaves_eret (s : State) : Leaves (s.cpu.hi, s.cpu.lo, false) (execEret s) := by
  refine leaves_controlTransfer ?_
  unfold exceptionReturn
  split
  · exact leaves_finish _ ((s.setCp0 _ _).setLL false)
  · exact leaves_finish _ ((s.setCp0 _ _).setLL false)

end

/-- Every instruction, by the form of its meaning. -/
theorem exec_hiLoLLRule (i : Instr) (s : State) : HiLoLLRule i s (exec i s) := by
  cases i with
  | mult | multu | div | divu | mthi | mtlo => exact Leaves.rule (leaves_finish ..) nofun rfl
  | ll => exact Leaves.rule (leaves_writeGpr _ _ (s.setLL true).countRead) (fun _ => ⟨rfl, rfl⟩) rfl
  | sc => exact Leaves.rule (leaves_sc ..) (fun _ => ⟨rfl, rfl⟩) rfl
  | eret => exact Leaves.rule (leaves_eret s) (fun _ => ⟨rfl, rfl⟩) rfl
  | add | sub | addi => exact Leaves.unchanged (leaves_writeChecked ..) rfl
  | addu | subu | and | or | xor | nor | slt | sltu | sll | srl | sra | sllv | srlv | srav | addiu | slti | sltiu | andi
  | ori | xori | lui | mfhi | mflo | mfc0 => exact Leaves.unchanged (leaves_writeGpr _ _ s) rfl
  | lb | lbu | lh | lhu | lw => exact Leaves.unchanged (leaves_loadInto ..) rfl
  | lwl => exact Leaves.unchanged (leaves_lwl ..) rfl
  | lwr => exact Leaves.unchanged (leaves_lwr ..) rfl
  | sb | sh | sw | swl | swr => exact Leaves.unchanged (leaves_storeBytes ..) rfl
  | sync | cache => exact Leaves.unchanged (leaves_finish .next s) rfl
  | mtc0 => exact Leaves.unchanged (leaves_finish .next (s.setCp0 _ _)) rfl
  | j | jr | beq | bne | blez | bgtz | bltz | bgez | beql | bnel | blezl | bgtzl | bltzl | bgezl =>
    exact Leaves.unchanged (leaves_controlTransfer (leaves_finish _ s)) rfl
  | jal | bltzal | bgezal | bltzall | bgezall =>
    exact Leaves.unchanged (leaves_controlTransfer (leaves_link _ s)) rfl
  | jalr rd rs =>
    refine Leaves.unchanged (leaves_controlTransfer ?_) rfl
    rw [← State.setX_hiLoLL s rd (linkValue s)]
    exact leaves_finish ..
  | tge | tgeu | tlt | tltu | teq | tne | tgei | tgeiu | tlti | tltiu | teqi | tnei =>
    exact Leaves.unchanged (leaves_trapIf _ s) rfl
  | syscall | brk | tlbr | tlbwi | tlbwr | tlbp | daddi | daddiu | ldl | ldr | lwu | sdl | sdr | lld | ld | scd | sd
  | dsllv | dsrlv | dsrav | dadd | daddu | dsub | dsubu | dmult | dmultu | ddiv | ddivu | dsll | dsrl | dsra | dsll32
  | dsrl32 | dsra32 | dmfc0 | dmtc0 | cop2 | lwc2 | ldc2 | swc2 | sdc2 =>
    exact Leaves.unchanged (leaves_raiseWith _ _ s) rfl
  | dmfc1 | dmtc1 => exact Leaves.unchanged (leaves_checkCU1 (leaves_raiseWith _ _ s)) rfl
  | mfc1 | cfc1 => exact Leaves.unchanged (leaves_checkCU1 (leaves_writeGpr _ _ s)) rfl
  | ctc1 => exact Leaves.unchanged (leaves_ctc1 ..) rfl
  | mtc1 | movS | movD => exact Leaves.unchanged (leaves_checkCU1 (leaves_finish .next (s.setFpr _ _))) rfl
  | lwc1 | ldc1 => exact Leaves.unchanged (leaves_checkCU1 (leaves_finish .next (s.countRead.setFpr _ _))) rfl
  | swc1 | sdc1 => exact Leaves.unchanged (leaves_checkCU1 (leaves_storeBytes ..)) rfl
  | bc1f | bc1t | bc1fl | bc1tl =>
    exact Leaves.unchanged (leaves_controlTransfer (leaves_checkCU1 (leaves_finish _ s))) rfl
  | addS | subS | mulS | divS | sqrtS | absS | negS | addD | subD | mulD | divD | sqrtD | absD | negD | cvtSD | cvtSW
  | cvtSL | cvtDS | cvtDW | cvtDL => exact Leaves.unchanged (leaves_checkCU1 (leaves_fpWrite ..)) rfl
  | roundWS | truncWS | ceilWS | floorWS | cvtWS | roundWD | truncWD | ceilWD | floorWD | cvtWD =>
    exact Leaves.unchanged (leaves_fpToWord ..) rfl
  | roundLS | truncLS | ceilLS | floorLS | cvtLS | roundLD | truncLD | ceilLD | floorLD | cvtLD =>
    exact Leaves.unchanged (leaves_fpToLong ..) rfl
  | cFS | cUnS | cEqS | cUeqS | cOltS | cUltS | cOleS | cUleS | cSfS | cNgleS | cSeqS | cNglS | cLtS | cNgeS | cLeS
  | cNgtS | cFD | cUnD | cEqD | cUeqD | cOltD | cUltD | cOleD | cUleD | cSfD | cNgleD | cSeqD | cNglD | cLtD | cNgeD
  | cLeD | cNgtD => exact Leaves.unchanged (leaves_fpCondition ..) rfl

theorem writesHiLo_eq_false {i : Instr} (h : ∀ rs rt, i ≠ .mult rs rt ∧ i ≠ .multu rs rt ∧ i ≠ .div rs rt ∧
    i ≠ .divu rs rt ∧ i ≠ .mthi rs ∧ i ≠ .mtlo rs) : writesHiLo i = false := by
  cases i with
  | mult rs rt => exact absurd rfl (h rs rt).1
  | multu rs rt => exact absurd rfl (h rs rt).2.1
  | div rs rt => exact absurd rfl (h rs rt).2.2.1
  | divu rs rt => exact absurd rfl (h rs rt).2.2.2.1
  | mthi rs => exact absurd rfl (h rs 0).2.2.2.2.1
  | mtlo rs => exact absurd rfl (h rs 0).2.2.2.2.2
  | _ => rfl

theorem llbitAfter_of_ne {i : Instr} (h : ∀ rt base offset, i ≠ .ll rt base offset ∧ i ≠ .sc rt base offset ∧ i ≠ .eret)
    (old : Bool) : llbitAfter i old = old := by
  cases i with
  | ll rt base offset => exact absurd rfl (h rt base offset).1
  | sc rt base offset => exact absurd rfl (h rt base offset).2.1
  | eret => exact absurd rfl (h 0 0 0).2.2
  | _ => rfl

/-- Settles O40: the first half from `exec_ends`, the second by the form of each instruction's meaning. -/
theorem wholeMachineFrame : Obligations.WholeMachineFrame := by
  refine ⟨fun i s t h => ?_, fun i s t h => ?_⟩
  · have effect := exec_cycleEffect h
    obtain ⟨rom, romLoaded, maps, memReady, slot0, slot7⟩ := effect.mem.frame
    exact ⟨rom, romLoaded, maps, memReady, slot0, slot7, by rw [effect.ctl]; rfl, effect.agenda, effect.runCall,
      effect.replies⟩
  · obtain ⟨hiLo, llbit⟩ := exec_hiLoLLRule i s t h
    refine ⟨fun hi => hiLo (writesHiLo_eq_false hi), fun hi => llbit.trans (llbitAfter_of_ne hi _), ?_, ?_⟩
    · rintro _ _ _ rfl
      exact llbit
    · rintro _ _ _ (rfl | rfl)
      · exact llbit
      · exact llbit

/-! ### Every step keeps the invariant -/

theorem MemEffect.ok {m n : MemSys} (h : MemEffect m n) (hm : m.Ok) : n.Ok := by
  obtain ⟨rom, romLoaded, maps, -, slot0, slot7⟩ := h.frame
  exact
    { arrays := h.arraysOk hm.arrays
      rom := by rw [rom, romLoaded]; exact hm.rom
      maps := by rw [maps]; exact hm.maps
      slots := ⟨slot0.trans hm.slots.1, slot7.trans hm.slots.2⟩ }

/-- The count of a cycle adds one to both counters. -/
theorem Ctl.Ok.count {s : State} (h : s.ctl.Ok) : s.count.ctl.Ok where
  bp := h.bp
  counters := congrArg (· + 1#64) h.counters
  stepReturn := h.stepReturn

theorem PreInv.trapEntry {s : State} (h : PreInv s) (code : BitVec 5) (ce : BitVec 2) :
    PreInv (trapEntry code ce s) := by
  obtain ⟨gpr, mem, ctl, -, runCall, -⟩ := trapEntry_keeps code ce s
  exact
    { x0 := by rw [gpr]; exact h.x0
      mem := by rw [mem]; exact h.mem
      ctl := by rw [ctl]; exact h.ctl
      runCall := by rw [ctl, runCall]; exact h.runCall }

theorem PreInv.setPendingExc {s : State} (h : PreInv s) (p : Option PendingExc) :
    PreInv { s with ctl := { s.ctl with pendingExc := p } } where
  x0 := h.x0
  mem := h.mem
  ctl := ⟨h.ctl.bp, h.ctl.counters, h.ctl.stepReturn⟩
  runCall := h.runCall

theorem PreInv.boundary {s : State} (h : PreInv s) : PreInv (boundary s) := by
  unfold Machine.boundary
  split
  · exact (h.setPendingExc none).trapEntry _ _
  · split
    · exact h.trapEntry _ _
    · exact h

theorem PreInv.memEffect {s : State} (h : PreInv s) {m : MemSys} (hm : MemEffect s.mem m) :
    PreInv { s with mem := m } := ⟨h.x0, hm.ok h.mem, h.ctl, h.runCall⟩

theorem PreInv.cycleEffect {s t : State} (h : PreInv s) (ht : CycleEffect s t) : PreInv t where
  x0 := ht.x0.trans h.x0
  mem := ht.mem.ok h.mem
  ctl := by rw [ht.ctl]; exact h.ctl.count
  runCall := by rw [ht.ctl, ht.runCall]; exact h.runCall

theorem boundary_run (s : State) :
    (boundary s).ctl.runState = s.ctl.runState ∧ (boundary s).runCall = s.runCall := by
  unfold boundary
  split
  · obtain ⟨-, -, ctl, -, runCall, -⟩ := trapEntry_keeps _ _ _
    exact ⟨by rw [ctl], runCall⟩
  · split
    · obtain ⟨-, -, ctl, -, runCall, -⟩ := trapEntry_keeps _ _ s
      exact ⟨by rw [ctl], runCall⟩
    · exact ⟨rfl, rfl⟩

/-- A cycle is the boundary, the counted fetch, and one instruction or rejected word. -/
theorem cycle_cycleEffect {s t : State} (h : cycle s = .next t) : CycleEffect (boundary s).countRead t := by
  unfold cycle at h
  split at h
  · exact executeOne_cycleEffect h
  · cases h

theorem PreInv.cycle {s t : State} (h : PreInv s) (ht : cycle s = .next t) : PreInv t :=
  (h.boundary.memEffect .read).cycleEffect (cycle_cycleEffect ht)

theorem cycle_run {s t : State} (h : cycle s = .next t) :
    t.ctl.runState = s.ctl.runState ∧ t.runCall = s.runCall := by
  have effect := cycle_cycleEffect h
  obtain ⟨runState, runCall⟩ := boundary_run s
  exact ⟨(congrArg Ctl.runState effect.ctl).trans runState, effect.runCall.trans runCall⟩

/-- The checks of `run` (40_controller.md R156) never enter Running. -/
theorem PreInv.runChecks {s : State} (h : PreInv s) (ceiling : Option Nat) : PreInv (runChecks ceiling s) where
  x0 := h.x0
  mem := h.mem
  ctl := ⟨h.ctl.bp, h.ctl.counters, h.ctl.stepReturn⟩
  runCall hr := by
    dsimp only [Machine.runChecks] at hr
    split at hr
    · cases hr
    · split at hr
      · cases hr
      · exact h.runCall hr

/-- A turn of `run` (40_controller.md R156): if the checks end the run, it returns. -/
theorem Inv.runTurn {ceiling : Option Nat} {s t : State} (h : Inv s) (ht : runTurn ceiling s = .next t) : Inv t := by
  unfold Machine.runTurn at ht
  split at ht
  next u hu =>
    cases ht
    exact ((h.pre.cycle hu).runChecks ceiling).returnRun []
  · cases ht
  · cases ht

/-- The cycle of `step()` (40_controller.md R160) goes back to Stopped or Paused, and no run is in progress. -/
theorem Inv.stepTurn {s t : State} (h : Inv s) (hs : s.ctl.runState = .stepping) (ht : stepTurn s = .next t) :
    Inv t := by
  unfold Machine.stepTurn at ht
  split at ht
  next u hu =>
    cases ht
    have pre := h.pre.cycle hu
    have idle : u.runCall = none := by
      rw [(cycle_run hu).2]
      by_contra hc
      rw [h.runCall.mpr hc] at hs
      cases hs
    have notRunning : u.ctl.stepReturn ≠ .running := by
      rcases pre.ctl.stepReturn with hr | hr <;> rw [hr] <;> decide
    exact (inv_iff _).mpr ⟨⟨pre.x0, pre.mem, ⟨pre.ctl.bp, pre.ctl.counters, pre.ctl.stepReturn⟩,
      fun hr => absurd hr notRunning⟩, fun hc => absurd idle hc⟩
  · cases ht
  · cases ht

theorem Inv.controllerTurn {s t : State} (h : Inv s) (ht : controllerTurn s = .next t) : Inv t := by
  unfold Machine.controllerTurn at ht
  split at ht
  next => exact h.runTurn ht
  next hs => exact h.stepTurn hs ht
  all_goals cases ht; exact h

/-! #### Host operations -/

/-- What an operation leaves: the invariant but for a run that returns right after it, or, when it is entered, the
invariant. -/
def HostResult.Keeps : HostResult → Prop
  | .ok _ t => PreInv t
  | .entered t => Inv t
  | .fatal => True

/-- An operation on memory alone. -/
theorem PreInv.setMem {s : State} (h : PreInv s) {m : MemSys} (hm : m.Ok) : PreInv { s with mem := m } :=
  ⟨h.x0, hm, h.ctl, h.runCall⟩

/-- An operation on the controller alone that does not start a run. -/
theorem PreInv.setCtl {s : State} (h : PreInv s) {c : Ctl} (hc : c.Ok)
    (hr : c.runState = .running → s.ctl.runState = .running) : PreInv { s with ctl := c } :=
  ⟨h.x0, h.mem, hc, fun k => h.runCall (hr k)⟩

theorem PreInv.setRunState {s : State} (h : PreInv s) {r : RunState} (hr : r ≠ .running) : PreInv (s.setRunState r) :=
  h.setCtl ⟨h.ctl.bp, h.ctl.counters, h.ctl.stepReturn⟩ (fun k => absurd k hr)

theorem MemSys.Ok.setMaps {m : MemSys} (h : m.Ok) {l : List Mapping} (hl : MapsOk l) :
    MemSys.Ok { m with maps := l } := ⟨h.arrays, h.rom, hl, h.slots⟩

theorem removeMapping_ok {l : List Mapping} (v : Word) (h : MapsOk l) : MapsOk (removeMapping v l) :=
  ⟨fun n hn => h.1 n ((removeMapping_sublist v l).subset hn), h.2.sublist (removeMapping_sublist v l)⟩

theorem romMapping_valid {image : List Byte} (h0 : image.length ≠ 0) (h : image.length ≤ Config.romMaxSize) :
    (romMapping image).valid = true := by
  simp only [Config.romMaxSize] at h
  simp only [Mapping.valid, romMapping, Config.romVbase, Config.romPbase, BitVec.toNat_ofNat, Bool.and_eq_true,
    decide_eq_true_eq]
  omega

section
variable {s : State}

theorem hostInitialize_keeps (h : PreInv s) : (hostInitialize s).Keeps := by
  unfold hostInitialize
  split
  · exact ⟨rfl, h.mem, Ctl.reset_ok, nofun⟩
  · trivial

theorem enterRun_keeps (answer : HostReply) (h : PreInv s) : (enterRun answer s).Keeps := by
  unfold enterRun
  split
  · split
    · exact h
    · exact (inv_iff _).mpr ⟨⟨h.x0, h.mem, ⟨h.ctl.bp, h.ctl.counters, h.ctl.stepReturn⟩, fun _ => nofun⟩, fun _ => rfl⟩
  · trivial

theorem hostPause_keeps (h : PreInv s) : (hostPause s).Keeps := by
  unfold hostPause
  split
  · exact h.setRunState nofun
  · exact h

/-- The state `step()` enters from Stopped or Paused, where no run is in progress. -/
theorem Inv.enterStepping (h : Inv s) {r : RunState} (hr : r = .stopped ∨ r = .paused)
    (hs : s.ctl.runState ≠ .running) :
    Inv { s with ctl := { s.ctl with runState := .stepping, stepReturn := r } } :=
  (inv_iff _).mpr ⟨⟨h.x0, h.pre.mem, ⟨h.bp, h.counters, hr⟩, nofun⟩, fun hc => absurd (h.runCall.mpr hc) hs⟩

theorem hostStep_keeps (h : Inv s) : (hostStep s).Keeps := by
  unfold hostStep
  split
  · split
    next hs => exact h.enterStepping (.inl rfl) (by rw [hs]; decide)
    next hs => exact h.enterStepping (.inr rfl) (by rw [hs]; decide)
    all_goals exact h.pre
  · trivial

theorem hostSetRunState_keeps (r : RunState) (h : PreInv s) : (hostSetRunState r s).Keeps := by
  cases r with
  | running => exact enterRun_keeps _ h
  | paused => exact h.setRunState nofun
  | stopped => exact h.setRunState nofun
  | stepping => exact h

theorem hostMap_keeps (m : Mapping) (h : PreInv s) : (hostMap m s).Keeps := by
  unfold hostMap
  split
  next hm =>
    rw [Bool.and_eq_true, Bool.not_eq_true'] at hm
    exact h.setMem (h.mem.setMaps (maps_append h.mem.maps hm.1 hm.2))
  · exact h

theorem hostUnmap_keeps (vbase : Word) (h : PreInv s) : (hostUnmap vbase s).Keeps := by
  unfold hostUnmap
  split
  · exact h.setMem (h.mem.setMaps (removeMapping_ok vbase h.mem.maps))
  · exact h

theorem hostLoadRom_keeps (image : List Byte) (h : PreInv s) : (hostLoadRom image s).Keeps := by
  unfold hostLoadRom
  dsimp only
  split
  · exact h
  next hi =>
    simp only [Bool.or_eq_true, decide_eq_true_eq, not_or, not_lt, Bool.not_eq_true] at hi
    obtain ⟨⟨notEmpty, fits⟩, clear⟩ := hi
    exact h.setMem
      { arrays := h.mem.arrays
        rom := ⟨fits, iff_of_true rfl (fun e => notEmpty (List.length_eq_zero_iff.mpr e))⟩
        maps := maps_append (removeMapping_ok _ h.mem.maps) (romMapping_valid notEmpty fits) clear
        slots := h.mem.slots }

theorem hostSetBreakpoint_keeps (a : Word) (h : PreInv s) : (hostSetBreakpoint a s).Keeps := by
  unfold hostSetBreakpoint
  split
  next ha => exact h.setCtl ⟨bpInsert_ok ha h.ctl.bp, h.ctl.counters, h.ctl.stepReturn⟩ id
  · exact h

theorem hostClearBreakpoint_keeps (a : Word) (h : PreInv s) : (hostClearBreakpoint a s).Keeps := by
  unfold hostClearBreakpoint
  split
  · obtain ⟨rising, inside⟩ := h.ctl.bp
    exact h.setCtl ⟨⟨rising.filter _, fun b hb => inside b (List.mem_of_mem_filter hb)⟩, h.ctl.counters,
      h.ctl.stepReturn⟩ id
  · exact h

theorem hostWriteCp0_keeps (i : Int) (v : Word) (h : PreInv s) : (hostWriteCp0 i v s).Keeps := by
  unfold hostWriteCp0
  split
  · exact ⟨h.x0, h.mem, h.ctl, h.runCall⟩
  · exact h

theorem hostReadCp0_keeps (i : Int) (h : PreInv s) : (hostReadCp0 i s).Keeps := by
  unfold hostReadCp0
  split <;> exact h

theorem hostWriteCp1_keeps (i : Int) (v : DWord) (h : PreInv s) : (hostWriteCp1 i v s).Keeps := by
  unfold hostWriteCp1
  split
  · exact ⟨h.x0, h.mem, h.ctl, h.runCall⟩
  · exact h

theorem hostReadCp1_keeps (i : Int) (h : PreInv s) : (hostReadCp1 i s).Keeps := by
  unfold hostReadCp1
  split <;> exact h

theorem hostRaiseException_keeps (code ce : Int) (h : PreInv s) : (hostRaiseException code ce s).Keeps := by
  unfold hostRaiseException
  split
  · exact h.setPendingExc _
  · exact h

theorem hostHandleException_keeps (h : PreInv s) : (hostHandleException s).Keeps := by
  unfold hostHandleException
  split
  · exact (h.setPendingExc none).trapEntry _ _
  · exact h

/-- Every operation of the host, of 40_controller.md R176. -/
theorem hostOp_keeps (op : HostOp) (h : Inv s) : (hostOp op s).Keeps := by
  have pre := h.pre
  cases op with
  | memInit => exact pre.setMem MemSys.reset_ok
  | init => exact hostInitialize_keeps pre
  | shutdown => exact pre.setCtl ⟨pre.ctl.bp, pre.ctl.counters, pre.ctl.stepReturn⟩ nofun
  | run => exact enterRun_keeps _ pre
  | pause => exact hostPause_keeps pre
  | stop => exact pre.setRunState nofun
  | step => exact hostStep_keeps h
  | setRunState r => exact hostSetRunState_keeps r pre
  | setExecMode => exact pre.setCtl ⟨pre.ctl.bp, pre.ctl.counters, pre.ctl.stepReturn⟩ id
  | read8 | read16 | read32 | read64 => exact pre.memEffect .read
  | write8 va v | write16 va v | write32 va v | write64 va v => exact pre.memEffect (.write va (beBytes v _))
  | map m => exact hostMap_keeps m pre
  | unmap vbase => exact hostUnmap_keeps vbase pre
  | loadRom image => exact hostLoadRom_keeps image pre
  | memResetStatistics => exact pre.setMem ⟨pre.mem.arrays, pre.mem.rom, pre.mem.maps, pre.mem.slots⟩
  | setBreakpoint a => exact hostSetBreakpoint_keeps a pre
  | clearBreakpoint a => exact hostClearBreakpoint_keeps a pre
  | resetStatistics => exact pre.setCtl ⟨pre.ctl.bp, rfl, pre.ctl.stepReturn⟩ id
  | readCp0 i => exact hostReadCp0_keeps i pre
  | writeCp0 i v => exact hostWriteCp0_keeps i v pre
  | readCp1 i => exact hostReadCp1_keeps i pre
  | writeCp1 i v => exact hostWriteCp1_keeps i v pre
  | raiseException code ce => exact hostRaiseException_keeps code ce pre
  | handleException => exact hostHandleException_keeps pre
  | getRunState | getExecMode | isRomLoaded | isValidAddress | getRegionForAddress | hasBreakpoint | getCycles
  | getInstructions => exact pre

end

theorem PreInv.setReplies {s : State} (h : PreInv s) (replies : List HostReply) :
    PreInv { s with replies := replies } := ⟨h.x0, h.mem, h.ctl, h.runCall⟩

theorem Inv.hostCall {op : HostOp} {s t : State} (h : Inv s) (ht : hostCall op s = .next t) : Inv t := by
  have keeps := hostOp_keeps op h
  unfold Machine.hostCall at ht
  split at ht
  next r u hu =>
    rw [hu] at keeps
    cases ht
    exact PreInv.returnRun (keeps.setReplies [r]) [r]
  next u hu =>
    rw [hu] at keeps
    cases ht
    exact keeps
  · cases ht

theorem Inv.setAgenda {s : State} (h : Inv s) (rest : List HostMove) : Inv { s with agenda := rest } :=
  (inv_iff _).mpr ⟨⟨h.x0, h.pre.mem, h.pre.ctl, h.runCall.mp⟩, h.runCall.mpr⟩

/-- Settles O41: whoever moves, the controller or the host, the invariant is kept. -/
theorem invariantKept : Obligations.InvariantKept := by
  intro s t h ht
  unfold step machineTurn at ht
  split at ht
  · exact h.controllerTurn ht
  · exact (h.setAgenda _).hostCall ht
  · exact (h.setAgenda _).controllerTurn ht
  · exact h.controllerTurn ht

end Sys2Proof.Machine
end

section
/-! SUPPORT. The family 20_memory: translation and the memory map, the bytes of memory and of the MMIO block, the
mapping list, the ROM image, and what the two counters of memory count. -/

namespace Sys2Proof.Machine

/-! ### Translation (20_memory.md R63) -/

theorem Mapping.contains_iff (m : Mapping) (va : Word) :
    m.contains va = true ↔ m.vbase.toNat ≤ va.toNat ∧ va.toNat < m.vbase.toNat + m.size.toNat := by
  simp [Mapping.contains]

theorem translate_cons_of_contains {m : Mapping} {va : Word} (h : m.contains va = true) (ms : List Mapping) :
    translate (m :: ms) va = m.pbase + (va - m.vbase) := if_pos h

theorem translate_cons_of_not_contains {m : Mapping} {va : Word} (h : ¬ m.contains va = true) (ms : List Mapping) :
    translate (m :: ms) va = translate ms va := if_neg h

/-- Mappings that do not contain the address are passed over. -/
theorem translate_append_of_not_contains {pre : List Mapping} {va : Word} (h : ∀ n ∈ pre, ¬ n.contains va = true)
    (ms : List Mapping) : translate (pre ++ ms) va = translate ms va := by
  induction pre with
  | nil => rfl
  | cons n pre ih =>
    obtain ⟨hn, hpre⟩ := List.forall_mem_cons.mp h
    rw [List.cons_append, translate_cons_of_not_contains hn, ih hpre]

theorem translate_of_not_contains {ms : List Mapping} {va : Word} (h : ∀ n ∈ ms, ¬ n.contains va = true) :
    translate ms va = va := by
  simpa [translate] using translate_append_of_not_contains h []

/-- Inside a mapping whose physical range ends by 2^32 the sum does not wrap. -/
theorem Mapping.toNat_translated {m : Mapping} {va : Word} (h : m.contains va = true)
    (fits : m.pbase.toNat + m.size.toNat ≤ 2 ^ 32) :
    (m.pbase + (va - m.vbase)).toNat = m.pbase.toNat + (va.toNat - m.vbase.toNat) := by
  obtain ⟨low, high⟩ := (m.contains_iff va).mp h
  rw [BitVec.toNat_add, BitVec.toNat_sub_of_le low, Nat.mod_eq_of_lt (by omega)]

/-- Settles O45: the mappings before the one that contains the address are passed over. -/
theorem translation : Obligations.Translation := by
  refine ⟨fun pre post m va before low high => ?_, fun maps va outside => ?_⟩
  · have inside := (m.contains_iff va).mpr ⟨low, high⟩
    have found : translate (pre ++ m :: post) va = m.pbase + (va - m.vbase) := by
      rw [translate_append_of_not_contains fun n hn => (n.contains_iff va).not.mpr (before n hn),
        translate_cons_of_contains inside]
    exact ⟨found, fun fits => by rw [found, Mapping.toNat_translated inside fits]⟩
  · exact translate_of_not_contains fun n hn => (n.contains_iff va).not.mpr (outside n hn)

/-! ### One byte, and the regions (20_memory.md R62, R70 to R75) -/

theorem MemSys.region_of_mmio (m : MemSys) {va : Word} (h : isMmio va = true) : m.region va = .mmio := if_pos h

theorem MemSys.region_of_phys (m : MemSys) {va : Word} (h : isMmio va = false) :
    m.region va = m.physRegion (translate m.maps va) := by simp [MemSys.region, h]

/-- Only addresses below the MMIO block are in ROM or unmapped, and neither DRAM nor SRAM is there. -/
theorem MemSys.phys_of_region {m : MemSys} {va : Word} (h : m.region va = .unmapped ∨ m.region va = .rom) :
    isMmio va = false ∧ inDram (translate m.maps va) = false ∧ inSram (translate m.maps va) = false := by
  cases hv : isMmio va
  · rw [m.region_of_phys hv] at h
    cases hd : inDram (translate m.maps va)
    · cases hs : inSram (translate m.maps va)
      · exact ⟨rfl, rfl, rfl⟩
      · simp [m.physRegion_sram hd hs] at h
    · simp [m.physRegion_dram hd] at h
  · simp [m.region_of_mmio hv] at h

theorem MemSys.byteRead_of_unmapped {m : MemSys} {va : Word} (h : m.region va = .unmapped) :
    m.byteRead va = 0xFF#8 := by
  obtain ⟨hv, hd, hs⟩ := MemSys.phys_of_region (.inl h)
  rw [m.region_of_phys hv, m.physRegion_other hd hs] at h
  rw [m.byteRead_of_phys hv, m.pByteRead_other hd hs, if_neg (by rintro hr; simp [hr] at h)]
  rfl

theorem MemSys.not_writable_of_region {m : MemSys} {va : Word} (h : m.region va = .unmapped ∨ m.region va = .rom) :
    (m.placeOf va).writable = false := by
  obtain ⟨hv, hd, hs⟩ := MemSys.phys_of_region h
  simp [MemSys.placeOf, Place.writable, hv, hd, hs]

/-- Settles O47: the law of one byte, and the two regions that discard writes. -/
theorem oneByte : Obligations.OneByte := fun _ va a b hs =>
  ⟨MemSys.byteRead_byteWrite hs va a b, MemSys.byteRead_of_unmapped, MemSys.not_writable_of_region⟩

/-! ### The map after reset (20_memory.md R61, R64) -/

/-- The initial mappings: two aliases of DRAM, else identity. -/
theorem toNat_translate_initialMaps (va : Word) :
    (translate initialMaps va).toNat =
      if 0x80000000 ≤ va.toNat ∧ va.toNat < 0x80400000 then va.toNat - 0x80000000
      else if 0xA0000000 ≤ va.toNat ∧ va.toNat < 0xA0400000 then va.toNat - 0xA0000000
      else va.toNat := by
  simp only [initialMaps, translate, Mapping.contains_iff, Config.dramPbase, Config.dramSize, Config.sramVbase,
    Config.sramPbase, Config.sramSize, Config.kseg0Alias, Config.kseg1Alias, BitVec.toNat_ofNat]
  repeat' split
  all_goals bv_omega

theorem inDram_iff (pa : Word) : inDram pa = true ↔ pa.toNat < 0x400000 := by
  rw [inDram, Bool.and_eq_true, decide_eq_true_eq, decide_eq_true_eq]
  exact and_iff_right (Nat.zero_le _)

theorem inSram_iff (pa : Word) : inSram pa = true ↔ 0x4000000 ≤ pa.toNat ∧ pa.toNat < 0x4008000 := by
  rw [inSram, Bool.and_eq_true, decide_eq_true_eq, decide_eq_true_eq]
  rfl

/-- Below the MMIO block the physical address decides; no ROM is loaded after reset. -/
theorem region_reset {va : Word} (h : va.toNat < 0xC0000000) {pa : Nat} (hpa : (translate initialMaps va).toNat = pa) :
    State.reset.mem.region va =
      if pa < 0x400000 then .dram
      else if 0x4000000 ≤ pa ∧ pa < 0x4008000 then .sram
      else .unmapped := by
  have phys : isMmio va = false := decide_eq_false (Nat.not_le.mpr h)
  rw [MemSys.region_of_phys _ phys, ← hpa]
  simp only [MemSys.physRegion, inDram_iff, inSram_iff]
  rfl

/-- Settles O46: the physical address from the initial mappings, then the region of that address. -/
theorem initialMemoryMap : Obligations.InitialMemoryMap := by
  intro va
  have phys := toNat_translate_initialMaps va
  refine ⟨fun h => ?dram, fun low high => ?kseg0, fun low high => ?kseg1, fun low high => ?sram,
    fun h => MemSys.region_of_mmio _ (decide_eq_true h), fun h0 h1 h2 h3 h4 => ?unmapped⟩
  case dram =>
    rw [if_neg (by omega), if_neg (by omega)] at phys
    exact ⟨(region_reset (by omega) phys).trans (if_pos h), phys⟩
  case kseg0 =>
    rw [if_pos ⟨low, high⟩] at phys
    exact ⟨(region_reset (by omega) phys).trans (if_pos (by omega)), phys⟩
  case kseg1 =>
    rw [if_neg (by omega), if_pos ⟨low, high⟩] at phys
    exact ⟨(region_reset (by omega) phys).trans (if_pos (by omega)), phys⟩
  case sram =>
    rw [if_neg (by omega), if_neg (by omega)] at phys
    exact ⟨(region_reset (by omega) phys).trans ((if_neg (by omega)).trans (if_pos ⟨low, high⟩)), phys⟩
  case unmapped =>
    rw [if_neg h1, if_neg h2] at phys
    have unmapped : State.reset.mem.region va = .unmapped :=
      (region_reset h4 phys).trans ((if_neg h0).trans (if_neg h3))
    exact ⟨unmapped, MemSys.byteRead_of_unmapped unmapped⟩

/-! ### The mapping list (20_memory.md R65 to R67) -/

theorem Mapping.valid_iff (m : Mapping) : m.valid = true ↔
    1 ≤ m.size.toNat ∧ m.vbase.toNat + m.size.toNat ≤ 2 ^ 32 ∧ m.pbase.toNat + m.size.toNat ≤ 2 ^ 32 := by
  simp only [Mapping.valid, Bool.and_eq_true, decide_eq_true_eq, and_assoc]

theorem Mapping.overlaps_iff (m n : Mapping) : m.overlaps n = true ↔
    m.vbase.toNat < n.vbase.toNat + n.size.toNat ∧ n.vbase.toNat < m.vbase.toNat + m.size.toNat := by
  simp [Mapping.overlaps]

theorem any_overlaps_eq_false_iff (m : Mapping) (ms : List Mapping) : ms.any m.overlaps = false ↔
    ∀ n ∈ ms, ¬ (m.vbase.toNat < n.vbase.toNat + n.size.toNat ∧ n.vbase.toNat < m.vbase.toNat + m.size.toNat) := by
  simp only [List.any_eq_false, Mapping.overlaps_iff]

theorem removeMapping_eq_eraseP (v : Word) (l : List Mapping) :
    removeMapping v l = l.eraseP (fun m => m.vbase = v) := by
  induction l with
  | nil => rfl
  | cons m ms ih =>
    by_cases h : m.vbase = v
    · simp [removeMapping, h]
    · simp [removeMapping, h, ih]

theorem removeMapping_append_cons {pre : List Mapping} {m : Mapping} (h : ∀ n ∈ pre, n.vbase ≠ m.vbase)
    (post : List Mapping) : removeMapping m.vbase (pre ++ m :: post) = pre ++ post := by
  rw [removeMapping_eq_eraseP, List.eraseP_append_right _ (by simpa using h), List.eraseP_cons_of_pos (by simp)]

theorem hostMap_eq (m : Mapping) (s : State) :
    hostMap m s = if m.valid = true ∧ s.mem.maps.any m.overlaps = false
      then .ok (.flag true) (s.setMaps (s.mem.maps ++ [m])) else .ok (.flag false) s := by
  simp [hostMap]

/-- Settles O50: `map` by the tests of `hostMap`, `unmap` by the first mapping with the base. -/
theorem mapAndUnmap : Obligations.MapAndUnmap := by
  refine ⟨fun s m => ?_, fun s pre post m first hmaps => ?_, fun s vbase absent => if_neg (by simpa using absent)⟩
  · simp only [← Mapping.valid_iff, ← any_overlaps_eq_false_iff]
    exact ⟨fun h => (hostMap_eq m s).trans (if_pos h), fun h => (hostMap_eq m s).trans (if_neg h)⟩
  · have found : s.mem.maps.any (fun n => n.vbase = m.vbase) = true := by simp [hmaps]
    have removed := removeMapping_append_cons first post
    rw [← hmaps] at removed
    exact (if_pos found).trans (by rw [removed]; rfl)

/-! ### The MMIO block (20_memory.md R76 to R79) -/

/-- Byte `k` of the register of MMIO slot `i`. -/
def slotByte (i : Fin 8) (k : Nat) : Word := BitVec.ofNat 32 (0xC0000000 + 16 * i.val + k)

theorem toNat_slotByte (i : Fin 8) {k : Nat} (hk : k < 4) : (slotByte i k).toNat = 0xC0000000 + 16 * i.val + k := by
  rw [slotByte, BitVec.toNat_ofNat]
  omega

theorem slotByte_succ (i : Fin 8) (k : Nat) : slotByte i k + 1#32 = slotByte i (k + 1) := (BitVec.ofNat_add ..).symm

theorem isMmio_slotByte (i : Fin 8) {k : Nat} (hk : k < 4) : isMmio (slotByte i k) = true := by
  rw [isMmio, toNat_slotByte i hk, decide_eq_true_eq, Config.mmioBase]
  omega

theorem slotByte_mod_four (i : Fin 8) {k : Nat} (hk : k < 4) : (slotByte i k).toNat % 4 = k := by
  rw [toNat_slotByte i hk]
  omega

theorem mmioSlot_slotByte (i : Fin 8) {k : Nat} (hk : k < 4) : mmioSlot (slotByte i k) = some i := by
  rw [mmioSlot_eq_some (isMmio_slotByte i hk), toNat_slotByte i hk, Config.mmioBase]
  omega

/-- An MMIO address of slot `i` lies in the word of that slot. -/
theorem slotWord_of_mmioSlot {va : Word} {i : Fin 8} (hv : isMmio va = true) (h : mmioSlot va = some i) :
    0xC0000000 + 16 * i.val ≤ va.toNat ∧ va.toNat < 0xC0000000 + 16 * i.val + 4 := by
  rw [mmioSlot_eq_some hv, Config.mmioBase] at h
  omega

theorem MemSys.byteRead_slotByte (m : MemSys) (i : Fin 8) {k : Nat} (hk : k < 4) :
    m.byteRead (slotByte i k) = byteLane m.mmio[i.val] k := by
  rw [m.byteRead_of_mmio (isMmio_slotByte i hk), MemSys.mmioByteRead, MemSys.mmioWord, mmioSlot_slotByte i hk,
    slotByte_mod_four i hk]

theorem MemSys.byteWrite_slotByte (m : MemSys) {i : Fin 8} (hi : mmioWritable i = true) {k : Nat} (hk : k < 4)
    (b : Byte) :
    m.byteWrite (slotByte i k) b = { m with mmio := m.mmio.set i.val (putByteLane m.mmio[i.val] k b) } := by
  simp only [MemSys.byteWrite, isMmio_slotByte i hk, if_true, MemSys.mmioByteWrite, mmioSlot_slotByte i hk, hi,
    slotByte_mod_four i hk]

/-- A word is its four byte lanes. -/
theorem word_ext_byteLane {u v : Word} (h : ∀ k < 4, byteLane u k = byteLane v k) : u = v := by
  refine BitVec.eq_of_getLsbD_eq fun n hn => ?_
  have lane := congrArg (·.getLsbD (n % 8)) (h (3 - n / 8) (by omega))
  simpa only [byteLane, BitVec.getLsbD_extractLsb', show n % 8 < 8 by omega, decide_true, Bool.true_and,
    show 24 - 8 * (3 - n / 8) + n % 8 = n by omega] using lane

/-- Four bytes written to a slot replace its register. -/
theorem MemSys.writeBytes_slotWord (m : MemSys) {i : Fin 8} (hi : mmioWritable i = true) (v : Word) :
    (m.writeBytes (slotByte i 0) (beBytes v 4)).mmio = m.mmio.set i.val v := by
  have bytes : beBytes v 4 = [byteLane v 0, byteLane v 1, byteLane v 2, byteLane v 3] := rfl
  have lanes : putByteLane (putByteLane (putByteLane (putByteLane m.mmio[i.val] 0 (byteLane v 0)) 1 (byteLane v 1)) 2
      (byteLane v 2)) 3 (byteLane v 3) = v := by
    refine word_ext_byteLane fun k hk => ?_
    interval_cases k <;> simp [byteLane_putByteLane]
  rw [bytes]
  simp [MemSys.writeBytes, slotByte_succ, MemSys.byteWrite_slotByte _ hi, lanes]

/-- Outside the slots that take writes a byte written to the MMIO block changes nothing. -/
theorem MemSys.mmioByteWrite_of_not_writable (m : MemSys) {va : Word} (b : Byte)
    (h : ∀ i, mmioSlot va = some i → mmioWritable i = false) : m.mmioByteWrite va b = m := by
  unfold MemSys.mmioByteWrite
  split
  next i hi => rw [h i hi, if_neg Bool.false_ne_true]
  · rfl

theorem MemSys.mmioByteRead_of_no_slot (m : MemSys) {va : Word} (h : mmioSlot va = none) :
    m.mmioByteRead va = 0xFF#8 := by
  have ones : ∀ k < 4, byteLane Config.mmioUnknownWord k = 0xFF#8 := by decide
  rw [MemSys.mmioByteRead, MemSys.mmioWord, h]
  exact ones _ (Nat.mod_lt _ (by decide))

/-- Settles O48: each address of the block by the slot whose word it lies in, if there is one. -/
theorem mmioSlots : Obligations.MmioSlots := by
  refine fun m => ⟨fun i k hk => m.byteRead_slotByte i hk, fun i v h1 h6 => ?_, fun va b high outside => ?_,
    fun va high outside => ?_⟩
  · exact m.writeBytes_slotWord (by simp [mmioWritable, h1, h6]) v
  · have hv : isMmio va = true := decide_eq_true high
    rw [MemSys.byteWrite, if_pos hv]
    refine m.mmioByteWrite_of_not_writable b fun i hi => ?_
    by_contra hw
    simp only [mmioWritable, Bool.not_eq_false, Bool.and_eq_true, decide_eq_true_eq] at hw
    exact outside i.val hw.1 hw.2 (slotWord_of_mmioSlot hv hi)
  · have hv : isMmio va = true := decide_eq_true high
    rw [m.byteRead_of_mmio hv]
    refine m.mmioByteRead_of_no_slot (Option.eq_none_iff_forall_ne_some.mpr fun i hi => ?_)
    exact outside i.val (by omega) (slotWord_of_mmioSlot hv hi)

/-! ### A value stored is the value read (20_memory.md R92, R97, R99) -/

/-- Bytes stored to distinct places that take writes are held there. -/
theorem MemSys.Stored.holds {w : Nat} {m m' : MemSys} {va : Word} {n : Nat} {v : BitVec w} (h : m.Stored va n v m')
    (plain : m.Plain va n) : m'.Holds va n v := by
  intro k hk
  obtain ⟨writable, distinct⟩ := plain k hk
  exact h.hit k hk _ rfl writable fun j hkj hjn => (distinct j hjn (Nat.ne_of_gt hkj)).symm

/-- A read returns the value that the bytes hold. -/
theorem MemSys.Holds.memValue_eq {w n : Nat} {s : State} {va : Word} {v : BitVec w} (h : s.mem.Holds va n v)
    (hw : w = 8 * n) : s.memValue w n va = v := MemSys.holds_unique hw (s.holds_memValue w n hw va) h

/-- The bytes of a value stored as a whole are held where they were written. -/
theorem StoresAt.holds {w n : Nat} {i : Instr} {s t : State} {va : Word} {v : BitVec w} {parts : List Part}
    {result : State → Prop} (h : StoresAt i s va n v parts result) (plain : s.mem.Plain va n)
    (ht : exec i s = .next t) : t.mem.Holds va n v := by
  obtain ⟨t', ht', -, -, -, stored, -⟩ := h
  obtain rfl : t' = t := Host.Outcome.next.inj (ht'.symm.trans ht)
  exact stored.holds plain

/-- SW and SDC1 store all the bytes of a value. -/
theorem storesAt_beBytes {w : Nat} {i : Instr} {s : State} (hm : MemoryOk s) (va : Word) (v : BitVec w) (n : Nat)
    (he : exec i s = storeBytes va (beBytes v n) s) : StoresAt i s va n v [] (fun _ => True) :=
  storesAt_of hm he (length_beBytes v n) fun k hk => getElem_beBytes v n k hk

theorem exec_sw (rt base : Reg) (offset : BitVec 16) (s : State) :
    exec (.sw rt base offset) s = storeBytes (addressAt s base offset) (beBytes (s.x rt) 4) s := by
  rw [← effectiveAddress_eq]
  rfl

theorem exec_sdc1 (ft base : Reg) (offset : BitVec 16) (s : State) :
    exec (.sdc1 ft base offset) s =
      checkCU1 s (storeBytes (addressAt s base offset) (beBytes (s.fpr ft) 8) s) := by
  rw [← effectiveAddress_eq]
  rfl

theorem exec_ldc1 (ft base : Reg) (offset : BitVec 16) (s : State) :
    exec (.ldc1 ft base offset) s =
      checkCU1 s (complete (s.countRead.setFpr ft (s.memValue 64 8 (addressAt s base offset)))) := by
  rw [← effectiveAddress_eq]
  rfl

/-- LDC1 with CU1 set leaves the doubleword read in the register. -/
theorem fpr_of_exec_ldc1 {ft base : Reg} {offset : BitVec 16} {s t : State} (cu1 : statusCU1 s.status = true)
    (h : exec (.ldc1 ft base offset) s = .next t) : t.fpr ft = s.memValue 64 8 (addressAt s base offset) := by
  rw [exec_of_checkCU1 (exec_ldc1 ft base offset s) cu1] at h
  cases h
  simp

/-- Settles O49: the bytes stored are held at the address, and every read there returns the value they hold. -/
theorem storeThenFetch : Obligations.StoreThenFetch := by
  refine ⟨fun s t rt base offset hm plain ht => ?_, fun s t ft base offset hm plain cu1 ht fj u hu => ?_⟩
  · have held := (storesAt_beBytes hm _ _ 4 (exec_sw rt base offset s)).holds plain ht
    have value : t.memValue 32 4 (addressAt s base offset) = s.x rt := held.memValue_eq rfl
    exact ⟨value, value, congrArg (fun v => HostResult.ok (.word v) t.countRead) value, held⟩
  · have stores := storesAt_beBytes hm _ _ 8 (exec_of_checkCU1 (exec_sdc1 ft base offset s) cu1)
    have held := stores.holds plain ht
    obtain ⟨t', ht', -, -, only, -⟩ := stores
    obtain rfl : t' = t := Host.Outcome.next.inj (ht'.symm.trans ht)
    have status : t'.status = s.status := only.cp0 _ (by simp)
    have address : addressAt t' base offset = addressAt s base offset := by
      rw [addressAt, only.gpr base (by simp), addressAt]
    rw [fpr_of_exec_ldc1 (by rw [status, cu1]) hu, address]
    exact held.memValue_eq rfl

/-! ### The ROM image (20_memory.md R80 to R82) -/

/-- Two valid mappings at one base overlap, so at most one mapping of the list has a given base. -/
theorem MapsOk.removeMapping_eq_filter {l : List Mapping} (h : MapsOk l) (v : Word) :
    removeMapping v l = l.filter (fun n => n.vbase ≠ v) := by
  induction l with
  | nil => rfl
  | cons m ms ih =>
    obtain ⟨hv, hvs⟩ := List.forall_mem_cons.mp h.1
    obtain ⟨clear, hms⟩ := List.pairwise_cons.mp h.2
    by_cases hm : m.vbase = v
    · have others : ∀ n ∈ ms, n.vbase ≠ v := by
        intro n hn hnv
        have sizes := (m.valid_iff.mp hv).1
        have sizen := (n.valid_iff.mp (hvs n hn)).1
        have := (m.overlaps_iff n).not.mp (Bool.eq_false_iff.mp (clear n hn))
        rw [hm, hnv] at this
        omega
      rw [removeMapping, if_pos hm, List.filter_cons_of_neg (by simpa using hm),
        List.filter_eq_self.mpr (by simpa using others)]
    · simp [removeMapping, hm, ih ⟨hvs, hms⟩]

theorem toNat_romMapping_size {image : List Byte} (h : image.length ≤ Config.romMaxSize) :
    (romMapping image).size.toNat = image.length := by
  rw [Config.romMaxSize] at h
  exact Nat.mod_eq_of_lt (by omega)

theorem romMapping_overlaps_iff {image : List Byte} (h : image.length ≤ Config.romMaxSize) (n : Mapping) :
    (romMapping image).overlaps n = true ↔
      0x10000000 < n.vbase.toNat + n.size.toNat ∧ n.vbase.toNat < 0x10000000 + image.length := by
  rw [Mapping.overlaps_iff, toNat_romMapping_size h]
  rfl

/-- The state after `load_rom` took the image (R80). -/
def State.withRom (s : State) (image : List Byte) : State :=
  { s with mem := { s.mem with
      rom := image
      romLoaded := true
      maps := s.mem.maps.filter (fun n => n.vbase ≠ 0x10000000#32) ++ [romMapping image] } }

/-- `load_rom` on a list of valid mappings that do not overlap. -/
theorem hostLoadRom_eq {s : State} (h : MapsOk s.mem.maps) (image : List Byte) :
    hostLoadRom image s =
      if (image.length = 0 ∨ Config.romMaxSize < image.length) ∨
        ∃ n ∈ s.mem.maps, n.vbase ≠ 0x10000000#32 ∧ (romMapping image).overlaps n = true
      then .ok (.flag false) s else .ok (.flag true) (s.withRom image) := by
  have kept : removeMapping (BitVec.ofNat 32 Config.romVbase) s.mem.maps =
      s.mem.maps.filter (fun n => n.vbase ≠ 0x10000000#32) := h.removeMapping_eq_filter _
  simp only [hostLoadRom, kept, State.withRom]
  simp

/-- The base of the ROM as a word and as a number. -/
theorem ne_romVbase_iff (v : Word) : v ≠ 0x10000000#32 ↔ v.toNat ≠ 0x10000000 :=
  (BitVec.toNat_inj (y := 0x10000000#32)).symm.not

/-- The bytes of the image, where no mapping leads elsewhere. -/
theorem MemSys.byteRead_of_rom {m : MemSys} {va : Word} {i : Nat} (loaded : m.romLoaded = true)
    (identity : translate m.maps va = va) (hva : va.toNat = 0x10000000 + i) (hi : i < m.rom.length)
    (fits : m.rom.length ≤ Config.romMaxSize) : m.byteRead va = m.rom[i] := by
  rw [Config.romMaxSize] at fits
  have phys : isMmio va = false := decide_eq_false (by rw [Config.mmioBase]; omega)
  have notDram : inDram va = false := Bool.eq_false_iff.mpr ((inDram_iff va).not.mpr (by omega))
  have notSram : inSram va = false := Bool.eq_false_iff.mpr ((inSram_iff va).not.mpr (by omega))
  have rom : m.inRom va = true := by simp [MemSys.inRom, loaded, Config.romPbase, hva, hi]
  have index : offsetFrom Config.romPbase va = i := by
    rw [offsetFrom_eq (by decide) (by rw [Config.romPbase]; omega), hva, Config.romPbase]
    omega
  rw [m.byteRead_of_phys phys, identity, m.pByteRead_other notDram notSram, if_pos rom, index,
    List.getD_eq_getElem _ _ hi]

/-- Where no mapping that stays overlaps the new one, the addresses of the image are not moved. -/
theorem translate_romMapping {kept : List Mapping} {image : List Byte} {va : Word} {i : Nat}
    (fits : image.length ≤ Config.romMaxSize)
    (clear : ∀ n ∈ kept, ¬ (0x10000000 < n.vbase.toNat + n.size.toNat ∧ n.vbase.toNat < 0x10000000 + image.length))
    (hva : va.toNat = 0x10000000 + i) (hi : i < image.length) :
    translate (kept ++ [romMapping image]) va = va := by
  have outside : ∀ n ∈ kept, ¬ n.contains va = true := by
    intro n hn hc
    rw [n.contains_iff] at hc
    exact clear n hn (by omega)
  have inside : (romMapping image).contains va = true := by
    rw [Mapping.contains_iff, toNat_romMapping_size fits, hva]
    exact ⟨Nat.le_add_right _ _, Nat.add_lt_add_left hi _⟩
  rw [translate_append_of_not_contains outside, translate_cons_of_contains inside]
  exact add_sub_cancel (0x10000000#32) va

/-- Settles O51: `hostLoadRom_eq` for the state after, `byteRead_of_rom` for the bytes of the image. -/
theorem loadRom : Obligations.LoadRom := by
  intro s image inv
  have answer : hostOp (.loadRom image) s = _ := hostLoadRom_eq inv.maps image
  refine ⟨fun bad => answer.trans (if_pos (.inl bad)), ?_, fun notEmpty fits clear => ?_⟩
  · rintro ⟨n, hn, base, overlap⟩
    by_cases bad : image.length = 0 ∨ Config.romMaxSize < image.length
    · exact answer.trans (if_pos (.inl bad))
    · exact answer.trans (if_pos (.inr ⟨n, hn, (ne_romVbase_iff _).mpr base,
        (romMapping_overlaps_iff (by omega) n).mpr overlap⟩))
  · have accepted : hostOp (.loadRom image) s = .ok (.flag true) (s.withRom image) := by
      refine answer.trans (if_neg (not_or.mpr ⟨by omega, ?_⟩))
      rintro ⟨n, hn, base, overlap⟩
      exact clear n hn ((ne_romVbase_iff _).mp base) ((romMapping_overlaps_iff fits n).mp overlap)
    refine ⟨_, accepted, rfl, fun i hi => ?_⟩
    have hva : (BitVec.ofNat 32 (0x10000000 + i)).toNat = 0x10000000 + i := by
      rw [Config.romMaxSize] at fits
      exact Nat.mod_eq_of_lt (by omega)
    refine MemSys.byteRead_of_rom rfl (translate_romMapping fits (fun n hn => ?_) hva hi) hva hi fits
    obtain ⟨hn, base⟩ := List.mem_filter.mp hn
    exact clear n hn ((ne_romVbase_iff _).mp (by simpa using base))

/-! ### The counters of memory (20_memory.md R86 to R88, R95) -/

/-- What an instruction does to the counters: nothing, one counted read, or one counted write. -/
inductive Access where
  | none | read | write
  deriving DecidableEq

/-- How many reads the access counts. -/
def Access.reads (a : Access) : DWord := if a = .read then 1#64 else 0#64

/-- How many writes the access counts. -/
def Access.writes (a : Access) : DWord := if a = .write then 1#64 else 0#64

/-- From `m` to `n` the access was counted, and nothing else. -/
structure Counts (a : Access) (m n : MemSys) : Prop where
  reads : n.memReads = m.memReads + a.reads
  writes : n.memWrites = m.memWrites + a.writes

theorem counts_none {m n : MemSys} (hr : n.memReads = m.memReads) (hw : n.memWrites = m.memWrites) :
    Counts .none m n := ⟨hr.trans (BitVec.add_zero _).symm, hw.trans (BitVec.add_zero _).symm⟩

theorem Counts.unchanged {m n : MemSys} (h : Counts .none m n) :
    n.memReads = m.memReads ∧ n.memWrites = m.memWrites :=
  ⟨h.reads.trans (BitVec.add_zero _), h.writes.trans (BitVec.add_zero _)⟩

theorem counts_countRead (s : State) : Counts .read s.mem s.countRead.mem := ⟨rfl, (BitVec.add_zero _).symm⟩

theorem counts_memWrite (s : State) (va : Word) (bs : List Byte) : Counts .write s.mem (s.memWrite va bs).mem where
  reads := (s.mem.writeBytes_memReads va bs).trans (BitVec.add_zero _).symm
  writes := rfl

/-- Every next state that the result holds has counted the access. -/
structure CountsIn (a : Access) (s : State) (r : Result) : Prop where
  next : ∀ t, r = .next t → Counts a s.mem t.mem

section
variable {a : Access} {s u : State} {body : Result}

theorem countsIn_finish (out : Out) (h : Counts a s.mem u.mem) : CountsIn a s (finish out u) := by
  constructor
  rintro t ⟨⟩
  rwa [sequence_mem, State.count_mem]

/-- A write of a general register, or of a link, at the end of an instruction. -/
theorem countsIn_setX (out : Out) (d : Reg) (v : Word) (h : Counts a s.mem u.mem) :
    CountsIn a s (finish out (u.setX d v)) := countsIn_finish out (by rwa [State.setX_mem])

theorem countsIn_raiseWith (e : Exception) (ce : BitVec 2) (h : Counts a s.mem u.mem) :
    CountsIn a s (raiseWith e ce u) := by
  constructor
  rintro t ⟨⟩
  obtain ⟨-, mem, -⟩ := trapEntry_keeps e.code ce u.count
  rw [mem]
  exact h

theorem countsIn_writeChecked (d : Reg) (v : Int) (s : State) : CountsIn .none s (writeChecked d v s) := by
  unfold writeChecked
  split
  · exact countsIn_raiseWith _ _ (counts_none rfl rfl)
  · exact countsIn_setX _ _ _ (counts_none rfl rfl)

theorem countsIn_trapIf (c : Bool) (s : State) : CountsIn .none s (trapIf c s) := by
  unfold trapIf
  split
  · exact countsIn_raiseWith _ _ (counts_none rfl rfl)
  · exact countsIn_finish _ (counts_none rfl rfl)

theorem countsIn_controlTransfer (h : CountsIn a s body) : CountsIn a s (controlTransfer s body) := by
  unfold controlTransfer
  split
  · exact h
  · exact ⟨fun _ refused => by cases refused⟩

/-- The access of an instruction of the FPU takes place only with CU1 set (46_fpu_move.md R344). -/
theorem countsIn_checkCU1 (h : CountsIn a s body) :
    CountsIn (if statusCU1 s.status then a else .none) s (checkCU1 s body) := by
  unfold checkCU1
  split
  · exact h
  · exact countsIn_raiseWith _ _ (counts_none rfl rfl)

theorem countsIn_checkCU1_none (h : CountsIn .none s body) : CountsIn .none s (checkCU1 s body) := by
  simpa only [ite_self] using countsIn_checkCU1 h

theorem countsIn_fpFinish (c : FpCause) {write : State → State} (hw : ∀ t, (write t).mem = t.mem) (s : State) :
    CountsIn .none s (fpFinish c write s) := by
  unfold fpFinish
  split
  · exact countsIn_raiseWith _ _ (counts_none rfl rfl)
  · exact countsIn_finish _ (by rw [hw]; exact counts_none rfl rfl)

theorem countsIn_fpWrite (f : Format) (r : FpResult) (fd : Reg) (s : State) :
    CountsIn .none s (checkCU1 s (fpWrite f r fd s)) :=
  countsIn_checkCU1_none (countsIn_fpFinish _ (fun t => (quiet_setFpBits t f fd _).memEq) s)

theorem countsIn_fpToWord (rm : Rounding) (f : Format) (fd fs : Reg) (s : State) :
    CountsIn .none s (fpToWord rm f fd fs s) :=
  countsIn_checkCU1_none (countsIn_fpFinish _ (write := fun t => t.setViewW fd _) (fun _ => rfl) s)

theorem countsIn_fpToLong (rm : Rounding) (f : Format) (fd fs : Reg) (s : State) :
    CountsIn .none s (fpToLong rm f fd fs s) :=
  countsIn_checkCU1_none (countsIn_fpFinish _ (write := fun t => t.setViewD fd _) (fun _ => rfl) s)

theorem countsIn_fpCondition (cond : BitVec 4) (f : Format) (fs ft : Reg) (s : State) :
    CountsIn .none s (fpCondition cond f fs ft s) :=
  countsIn_checkCU1_none (countsIn_fpFinish _ (write := fun t => t.setCond _) (fun _ => rfl) s)

theorem countsIn_ctc1 (rt fs : Reg) (s : State) : CountsIn .none s (execCtc1 rt fs s) := by
  refine countsIn_checkCU1_none ?_
  dsimp only
  split
  · exact countsIn_raiseWith _ _ (counts_none rfl rfl)
  · exact countsIn_finish _ (counts_none rfl rfl)

theorem countsIn_sc (rt base : Reg) (offset : BitVec 16) (s : State) :
    CountsIn (if s.cpu.llbit then .write else .none) s (execSc rt base offset s) := by
  unfold execSc
  split
  · exact countsIn_setX _ _ _ (counts_memWrite s _ _)
  · exact countsIn_setX _ _ _ (counts_none rfl rfl)

theorem countsIn_eret (s : State) : CountsIn .none s (execEret s) := by
  refine countsIn_controlTransfer (countsIn_finish _ ?_)
  unfold exceptionReturn
  split <;> exact counts_none rfl rfl

end

/-- The access an instruction makes in a state (44_loadstore.md, 46_fpu_move.md). -/
def accessOf (i : Instr) (s : State) : Access :=
  match i with
  | .lb _ _ _ | .lbu _ _ _ | .lh _ _ _ | .lhu _ _ _ | .lw _ _ _ | .lwl _ _ _ | .lwr _ _ _ | .ll _ _ _ => .read
  | .lwc1 _ _ _ | .ldc1 _ _ _ => if statusCU1 s.status then .read else .none
  | .sb _ _ _ | .sh _ _ _ | .sw _ _ _ | .swl _ _ _ | .swr _ _ _ => .write
  | .sc _ _ _ => if s.cpu.llbit then .write else .none
  | .swc1 _ _ _ | .sdc1 _ _ _ => if statusCU1 s.status then .write else .none
  | _ => .none

/-- Every instruction, by the form of its meaning. -/
theorem exec_counts (i : Instr) (s : State) : CountsIn (accessOf i s) s (exec i s) := by
  have same : Counts .none s.mem s.mem := counts_none rfl rfl
  cases i with
  | lb | lbu | lh | lhu | lw | lwl | lwr => exact countsIn_setX _ _ _ (counts_countRead s)
  | ll => exact countsIn_setX _ _ _ (counts_countRead (s.setLL true))
  | sb | sh | sw | swl | swr => exact countsIn_finish _ (counts_memWrite s _ _)
  | sc => exact countsIn_sc ..
  | lwc1 | ldc1 => exact countsIn_checkCU1 (countsIn_finish _ (counts_countRead s))
  | swc1 | sdc1 => exact countsIn_checkCU1 (countsIn_finish _ (counts_memWrite s _ _))
  | add | sub | addi => exact countsIn_writeChecked ..
  | addu | subu | and | or | xor | nor | slt | sltu | sll | srl | sra | sllv | srlv | srav | addiu | slti | sltiu | andi
  | ori | xori | lui | mfhi | mflo | mfc0 => exact countsIn_setX _ _ _ same
  | mult | multu | div | divu | mthi | mtlo | sync | cache | mtc0 => exact countsIn_finish _ same
  | j | jr | beq | bne | blez | bgtz | bltz | bgez | beql | bnel | blezl | bgtzl | bltzl | bgezl =>
    exact countsIn_controlTransfer (countsIn_finish _ same)
  | jal | jalr | bltzal | bgezal | bltzall | bgezall =>
    exact countsIn_controlTransfer (countsIn_setX _ _ _ same)
  | eret => exact countsIn_eret s
  | tge | tgeu | tlt | tltu | teq | tne | tgei | tgeiu | tlti | tltiu | teqi | tnei => exact countsIn_trapIf _ s
  | syscall | brk | tlbr | tlbwi | tlbwr | tlbp | daddi | daddiu | ldl | ldr | lwu | sdl | sdr | lld | ld | scd | sd
  | dsllv | dsrlv | dsrav | dadd | daddu | dsub | dsubu | dmult | dmultu | ddiv | ddivu | dsll | dsrl | dsra | dsll32
  | dsrl32 | dsra32 | dmfc0 | dmtc0 | cop2 | lwc2 | ldc2 | swc2 | sdc2 => exact countsIn_raiseWith _ _ same
  | dmfc1 | dmtc1 => exact countsIn_checkCU1_none (countsIn_raiseWith _ _ same)
  | mfc1 | cfc1 => exact countsIn_checkCU1_none (countsIn_setX _ _ _ same)
  | ctc1 => exact countsIn_ctc1 ..
  | mtc1 | movS | movD => exact countsIn_checkCU1_none (countsIn_finish _ same)
  | bc1f | bc1t | bc1fl | bc1tl =>
    exact countsIn_controlTransfer (countsIn_checkCU1_none (countsIn_finish _ same))
  | addS | subS | mulS | divS | sqrtS | absS | negS | addD | subD | mulD | divD | sqrtD | absD | negD | cvtSD | cvtSW
  | cvtSL | cvtDS | cvtDW | cvtDL => exact countsIn_fpWrite ..
  | roundWS | truncWS | ceilWS | floorWS | cvtWS | roundWD | truncWD | ceilWD | floorWD | cvtWD =>
    exact countsIn_fpToWord ..
  | roundLS | truncLS | ceilLS | floorLS | cvtLS | roundLD | truncLD | ceilLD | floorLD | cvtLD =>
    exact countsIn_fpToLong ..
  | cFS | cUnS | cEqS | cUeqS | cOltS | cUltS | cOleS | cUleS | cSfS | cNgleS | cSeqS | cNglS | cLtS | cNgeS | cLeS
  | cNgtS | cFD | cUnD | cEqD | cUeqD | cOltD | cUltD | cOleD | cUleD | cSfD | cNgleD | cSeqD | cNglD | cLtD | cNgeD
  | cLeD | cNgtD => exact countsIn_fpCondition ..

/-- A word that is no instruction makes no access (45_system.md R323, 47_fpu_arith.md R361). -/
theorem execRejected_counts (e : Rejection) (s : State) : CountsIn .none s (execRejected e s) := by
  cases e with
  | reservedInstruction => exact countsIn_raiseWith _ _ (counts_none rfl rfl)
  | unimplementedCop1 => exact countsIn_checkCU1_none (countsIn_fpFinish _ (fun _ => rfl) s)

/-- The instructions that make a counted read. -/
def Loads (i : Instr) (s : State) : Prop :=
  ∃ rt base offset, i = .lb rt base offset ∨ i = .lbu rt base offset ∨ i = .lh rt base offset ∨
    i = .lhu rt base offset ∨ i = .lw rt base offset ∨ i = .lwl rt base offset ∨ i = .lwr rt base offset ∨
    i = .ll rt base offset ∨ (statusCU1 s.status = true ∧ (i = .lwc1 rt base offset ∨ i = .ldc1 rt base offset))

/-- The instructions that make a counted write. -/
def Stores (i : Instr) (s : State) : Prop :=
  ∃ rt base offset, i = .sb rt base offset ∨ i = .sh rt base offset ∨ i = .sw rt base offset ∨
    i = .swl rt base offset ∨ i = .swr rt base offset ∨ (s.cpu.llbit = true ∧ i = .sc rt base offset) ∨
    (statusCU1 s.status = true ∧ (i = .swc1 rt base offset ∨ i = .sdc1 rt base offset))

theorem accessOf_eq_read_iff (i : Instr) (s : State) : accessOf i s = .read ↔ Loads i s := by
  constructor
  · intro h
    cases i with
    | lb rt base offset | lbu rt base offset | lh rt base offset | lhu rt base offset | lw rt base offset
    | lwl rt base offset | lwr rt base offset | ll rt base offset => exact ⟨rt, base, offset, by simp⟩
    | lwc1 rt base offset | ldc1 rt base offset =>
      exact ⟨rt, base, offset, by simpa [accessOf] using h⟩
    | sc => cases hll : s.cpu.llbit <;> simp [accessOf, hll] at h
    | swc1 | sdc1 => cases hcu : statusCU1 s.status <;> simp [accessOf, hcu] at h
    | _ => cases h
  · rintro ⟨rt, base, offset, rfl | rfl | rfl | rfl | rfl | rfl | rfl | rfl | ⟨cu1, rfl | rfl⟩⟩
    all_goals simp [accessOf, *]

theorem accessOf_eq_write_iff (i : Instr) (s : State) : accessOf i s = .write ↔ Stores i s := by
  constructor
  · intro h
    cases i with
    | sb rt base offset | sh rt base offset | sw rt base offset | swl rt base offset | swr rt base offset =>
      exact ⟨rt, base, offset, by simp⟩
    | sc rt base offset | swc1 rt base offset | sdc1 rt base offset =>
      exact ⟨rt, base, offset, by simpa [accessOf] using h⟩
    | lwc1 | ldc1 => cases hcu : statusCU1 s.status <;> simp [accessOf, hcu] at h
    | _ => cases h
  · rintro ⟨rt, base, offset, rfl | rfl | rfl | rfl | rfl | ⟨ll, rfl⟩ | ⟨cu1, rfl | rfl⟩⟩
    all_goals simp [accessOf, *]

/-! #### Host operations and turns -/

/-- What holds of the memory that an operation leaves. -/
def HostResult.MemSatisfies (P : MemSys → Prop) : HostResult → Prop
  | .ok _ t => P t.mem
  | .entered t => P t.mem
  | .fatal => True

theorem HostResult.MemSatisfies.of_answer {P : MemSys → Prop} {r : HostResult} {t : State} (h : r.MemSatisfies P)
    (ht : (∃ reply, r = .ok reply t) ∨ r = .entered t) : P t.mem := by
  obtain ⟨reply, rfl⟩ | rfl := ht
  · exact h
  · exact h

theorem hostRead_counts (w n : Nat) (reply : BitVec w → HostReply) (va : Word) (s : State) :
    ∃ r t, hostRead w n reply va s = .ok r t ∧
      t.mem.memReads = s.mem.memReads + 1#64 ∧ t.mem.memWrites = s.mem.memWrites :=
  ⟨_, s.countRead, rfl, rfl, rfl⟩

theorem hostWrite_counts (va : Word) (bs : List Byte) (s : State) :
    ∃ r t, hostWrite va bs s = .ok r t ∧
      t.mem.memWrites = s.mem.memWrites + 1#64 ∧ t.mem.memReads = s.mem.memReads :=
  ⟨_, s.memWrite va bs, rfl, rfl, s.mem.writeBytes_memReads va bs⟩

/-- The host operations that count or clear: the reads, the writes, and the two that clear both counters. -/
def countsOrClears : HostOp → Bool
  | .read8 _ | .read16 _ | .read32 _ | .read64 _ | .write8 _ _ | .write16 _ _ | .write32 _ _ | .write64 _ _
  | .memResetStatistics | .memInit => true
  | _ => false

theorem hostStep_counts (s : State) : (hostStep s).MemSatisfies (Counts .none s.mem) := by
  unfold hostStep
  split
  · split <;> exact counts_none rfl rfl
  · trivial

theorem enterRun_counts (answer : HostReply) (s : State) :
    (enterRun answer s).MemSatisfies (Counts .none s.mem) := by
  unfold enterRun
  split
  · split <;> exact counts_none rfl rfl
  · trivial

theorem hostHandleException_counts (s : State) : (hostHandleException s).MemSatisfies (Counts .none s.mem) := by
  unfold hostHandleException
  split
  next p _ =>
    obtain ⟨-, mem, -⟩ := trapEntry_keeps p.code p.ce { s with ctl := { s.ctl with pendingExc := none } }
    exact counts_none (by rw [mem]) (by rw [mem])
  · exact counts_none rfl rfl

/-- Every other operation of the host leaves the counters. -/
theorem hostOp_counts {op : HostOp} (h : countsOrClears op = false) (s : State) :
    (hostOp op s).MemSatisfies (Counts .none s.mem) := by
  cases op with
  | memInit | memResetStatistics | read8 | read16 | read32 | read64 | write8 | write16 | write32 | write64 => cases h
  | run => exact enterRun_counts ..
  | step => exact hostStep_counts s
  | setRunState r =>
    cases r with
    | running => exact enterRun_counts ..
    | stopped | paused | stepping => exact counts_none rfl rfl
  | handleException => exact hostHandleException_counts s
  | shutdown | stop | getRunState | getExecMode | setExecMode | isRomLoaded | isValidAddress | getRegionForAddress
  | hasBreakpoint | getCycles | getInstructions | resetStatistics => exact counts_none rfl rfl
  | init =>
    dsimp only [hostOp, hostInitialize]
    split
    · exact counts_none rfl rfl
    · trivial
  | pause =>
    dsimp only [hostOp, hostPause]
    split <;> exact counts_none rfl rfl
  | map | unmap | loadRom | setBreakpoint | clearBreakpoint | readCp0 | writeCp0 | readCp1 | writeCp1
  | raiseException =>
    dsimp only [hostOp, hostMap, hostUnmap, hostLoadRom, hostSetBreakpoint, hostClearBreakpoint, hostReadCp0,
      hostWriteCp0, hostReadCp1, hostWriteCp1, hostRaiseException]
    split <;> exact counts_none rfl rfl

theorem countsOrClears_eq_false {op : HostOp}
    (noRead : ∀ va, op ≠ .read8 va ∧ op ≠ .read16 va ∧ op ≠ .read32 va ∧ op ≠ .read64 va)
    (noWrite : ∀ va, (∀ v, op ≠ .write8 va v) ∧ (∀ v, op ≠ .write16 va v) ∧ (∀ v, op ≠ .write32 va v) ∧
      ∀ v, op ≠ .write64 va v)
    (noReset : op ≠ .memResetStatistics) (noInit : op ≠ .memInit) : countsOrClears op = false := by
  cases op with
  | read8 va | read16 va | read32 va | read64 va => simpa using noRead va
  | write8 va v | write16 va v | write32 va v | write64 va v => simpa using noWrite va
  | memResetStatistics => exact absurd rfl noReset
  | memInit => exact absurd rfl noInit
  | _ => rfl

theorem boundary_mem (s : State) : (boundary s).mem = s.mem := by
  unfold boundary
  split
  · obtain ⟨-, mem, -⟩ := trapEntry_keeps _ _ _
    exact mem
  · split
    · obtain ⟨-, mem, -⟩ := trapEntry_keeps _ _ s
      exact mem
    · rfl

/-- A turn in Running or Stepping is one cycle, and its checks leave memory alone. -/
theorem controllerTurn_cycle {s t : State} (h : controllerTurn s = .next t)
    (hs : s.ctl.runState = .running ∨ s.ctl.runState = .stepping) : ∃ u, cycle s = .next u ∧ t.mem = u.mem := by
  obtain hs | hs := hs
  · simp only [controllerTurn, hs, runTurn] at h
    split at h <;> cases h
    next u hu => exact ⟨u, hu, rfl⟩
  · simp only [controllerTurn, hs, stepTurn] at h
    split at h <;> cases h
    next u hu => exact ⟨u, hu, rfl⟩

theorem controllerTurn_idle {s t : State} (h : controllerTurn s = .next t)
    (hs : s.ctl.runState = .stopped ∨ s.ctl.runState = .paused) : t = s := by
  unfold controllerTurn at h
  obtain hs | hs := hs <;> rw [hs] at h <;> exact (Host.Outcome.next.inj h).symm

/-- A cycle executes the word it fetches after one counted read. -/
theorem executeOne_of_cycle {s u : State} (h : cycle s = .next u) :
    executeOne (boundary s).fetchWord (boundary s).countRead = .next u := by
  unfold cycle at h
  split at h
  · exact h
  · cases h

/-- Settles O52: the instructions by `exec_counts`, the other moves by what each leaves of memory. -/
theorem memoryCounters : Obligations.MemoryCounters := by
  refine ⟨fun i s t ht => ?instructions, fun s va op => ⟨?hostReads, ?hostWrites⟩,
    fun s t op ht => ⟨?clears, fun noRead noWrite noReset noInit => ?others⟩, fun w e s t hw ht => ?rejected,
    fun s t ht => ⟨fun hs => ?cycle, fun hs => ?idle⟩⟩
  case instructions =>
    obtain ⟨reads, writes⟩ := (exec_counts i s).next t ht
    rw [Access.reads] at reads
    rw [Access.writes] at writes
    refine ⟨fun (h : Loads i s) => ?_, fun (h : ¬ Loads i s) => ?_, fun (h : Stores i s) => ?_,
      fun (h : ¬ Stores i s) => ?_⟩
    · rwa [if_pos ((accessOf_eq_read_iff i s).mpr h)] at reads
    · rwa [if_neg ((accessOf_eq_read_iff i s).not.mpr h), BitVec.add_zero] at reads
    · rwa [if_pos ((accessOf_eq_write_iff i s).mpr h)] at writes
    · rwa [if_neg ((accessOf_eq_write_iff i s).not.mpr h), BitVec.add_zero] at writes
  case hostReads =>
    rintro (rfl | rfl | rfl | rfl) <;> exact hostRead_counts ..
  case hostWrites =>
    rintro (⟨v, rfl⟩ | ⟨v, rfl⟩ | ⟨v, rfl⟩ | ⟨v, rfl⟩) <;> exact hostWrite_counts ..
  case clears =>
    rintro (rfl | rfl)
    · obtain ⟨_, ht⟩ | ht := ht <;> cases ht
      exact ⟨rfl, rfl⟩
    · obtain ⟨_, ht⟩ | ht := ht <;> cases ht
      exact ⟨rfl, rfl⟩
  case others =>
    exact ((hostOp_counts (countsOrClears_eq_false noRead noWrite noReset noInit) s).of_answer ht).unchanged
  case rejected =>
    rw [executeOne, hw] at ht
    exact ((execRejected_counts e s).next t ht).unchanged
  case cycle =>
    obtain ⟨u, hu, mem⟩ := controllerTurn_cycle ht hs
    exact ⟨(boundary s).countRead, u, by rw [State.countRead_memReads, boundary_mem],
      by rw [State.countRead_memWrites, boundary_mem], executeOne_of_cycle hu, by rw [mem], by rw [mem]⟩
  case idle =>
    rw [controllerTurn_idle ht hs]
    exact ⟨rfl, rfl⟩

end Sys2Proof.Machine
end

section
/-! SUPPORT. The family 30_encoding: decoding undoes encoding, and what the decoder answers fits its row. -/

namespace Sys2Proof

/-! ### Which map reads a word (R114 to R119) -/

theorem decode_special {w : Word} (h : opcodeOf w = 0x00#6) : decode w = decodeSpecial w := by rw [decode, h]; rfl

theorem decode_regimm {w : Word} (h : opcodeOf w = 0x01#6) : decode w = decodeRegimm w := by rw [decode, h]; rfl

theorem decode_cop0 {w : Word} (h : opcodeOf w = 0x10#6) : decode w = decodeCop0 w := by rw [decode, h]; rfl

theorem decode_co {w : Word} (h : opcodeOf w = 0x10#6) (hco : coBit w = true) : decode w = decodeCo w :=
  (decode_cop0 h).trans (if_pos hco)

theorem decode_cop0Rs {w : Word} (h : opcodeOf w = 0x10#6) (hco : coBit w = false) : decode w = decodeCop0Rs w :=
  (decode_cop0 h).trans (if_neg (Bool.not_eq_true _ ▸ hco))

theorem decode_cop1 {w : Word} (h : opcodeOf w = 0x11#6) : decode w = decodeCop1 w := by rw [decode, h]; rfl

theorem decode_bc {w : Word} (h : opcodeOf w = 0x11#6) (hrs : rsBits w = 0x08#5) : decode w = decodeBc w := by
  rw [decode_cop1 h, decodeCop1, hrs]; rfl

theorem decode_fmtS {w : Word} (h : opcodeOf w = 0x11#6) (hrs : rsBits w = 0x10#5) : decode w = decodeFmtS w := by
  rw [decode_cop1 h, decodeCop1, hrs]; rfl

theorem decode_fmtD {w : Word} (h : opcodeOf w = 0x11#6) (hrs : rsBits w = 0x11#5) : decode w = decodeFmtD w := by
  rw [decode_cop1 h, decodeCop1, hrs]; rfl

theorem decode_fmtW {w : Word} (h : opcodeOf w = 0x11#6) (hrs : rsBits w = 0x14#5) : decode w = decodeFmtW w := by
  rw [decode_cop1 h, decodeCop1, hrs]; rfl

theorem decode_fmtL {w : Word} (h : opcodeOf w = 0x11#6) (hrs : rsBits w = 0x15#5) : decode w = decodeFmtL w := by
  rw [decode_cop1 h, decodeCop1, hrs]; rfl

/-! ### The operands of an encoded word (R111, R112) -/

section
variable {o f : BitVec 6} {a b c d : BitVec 5} {i : BitVec 16} {r : Reg} {n : Nat}

@[simp] theorem rsOf_encodeR : rsOf (encodeR o (regField r) b c d f) = r := congrArg BitVec.toFin (rsBits_encodeR ..)
@[simp] theorem rtOf_encodeR : rtOf (encodeR o a (regField r) c d f) = r := congrArg BitVec.toFin (rtBits_encodeR ..)
@[simp] theorem rdOf_encodeR : rdOf (encodeR o a b (regField r) d f) = r := congrArg BitVec.toFin (rdBits_encodeR ..)
@[simp] theorem saOf_encodeR : saOf (encodeR o a b c (regField r) f) = r := congrArg BitVec.toFin (saBits_encodeR ..)
@[simp] theorem rsOf_encodeI : rsOf (encodeI o (regField r) b i) = r := congrArg BitVec.toFin (rsBits_encodeI ..)
@[simp] theorem rtOf_encodeI : rtOf (encodeI o a (regField r) i) = r := congrArg BitVec.toFin (rtBits_encodeI ..)

@[simp] theorem rsOf_encodeTrap {e : BitVec 10} : rsOf (encodeTrap (regField r) b e f) = r :=
  congrArg BitVec.toFin (rsBits_encodeTrap ..)
@[simp] theorem rtOf_encodeTrap {e : BitVec 10} : rtOf (encodeTrap a (regField r) e f) = r :=
  congrArg BitVec.toFin (rtBits_encodeTrap ..)

theorem toNat_ofNat_of_fitsField {width : Nat} (h : fitsField width n = true) : (BitVec.ofNat width n).toNat = n :=
  Nat.mod_eq_of_lt (of_decide_eq_true h)

theorem saNat_encodeR (h : fitsField 5 n = true) : saNat (encodeR o a b c (BitVec.ofNat 5 n) f) = n :=
  (congrArg BitVec.toNat (saBits_encodeR ..)).trans (toNat_ofNat_of_fitsField h)

theorem rtNat_encodeI (h : fitsField 5 n = true) : rtNat (encodeI o a (BitVec.ofNat 5 n) i) = n :=
  (congrArg BitVec.toNat (rtBits_encodeI ..)).trans (toNat_ofNat_of_fitsField h)

end

/-! ### Decoding undoes encoding -/

theorem decode_encode (i : Instr) (h : i.wellFormed = true) : decode (encode i) = .ok i := by
  cases i
  -- SPECIAL (R115): registers; a shift amount or `stype`; a code
  case add | addu | sub | subu | and | or | xor | nor | slt | sltu | sllv | srlv | srav | mult | multu | div | divu
      | mfhi | mthi | mflo | mtlo | jr | jalr | dsllv | dsrlv | dsrav | dadd | daddu | dsub | dsubu | dmult | dmultu
      | ddiv | ddivu =>
    change decode (encodeR _ _ _ _ _ _) = _
    rw [decode_special (opcodeOf_encodeR ..), decodeSpecial, functOf_encodeR]
    exact congrArg Except.ok (by simp only [rsOf_encodeR, rtOf_encodeR, rdOf_encodeR])
  case sll | srl | sra | sync | dsll | dsrl | dsra | dsll32 | dsrl32 | dsra32 =>
    change decode (encodeR _ _ _ _ _ _) = _
    rw [decode_special (opcodeOf_encodeR ..), decodeSpecial, functOf_encodeR]
    exact congrArg Except.ok (by simp only [rtOf_encodeR, rdOf_encodeR, saNat_encodeR h])
  case syscall | brk =>
    change decode (encodeCode _ _) = _
    rw [decode_special (opcodeOf_encodeCode ..), decodeSpecial, functOf_encodeCode]
    exact congrArg Except.ok (by simp only [code20_encodeCode, toNat_ofNat_of_fitsField h])
  case tge | tgeu | tlt | tltu | teq | tne =>
    change decode (encodeTrap _ _ _ _) = _
    rw [decode_special (opcodeOf_encodeTrap ..), decodeSpecial, functOf_encodeTrap]
    exact congrArg Except.ok (by
      simp only [rsOf_encodeTrap, rtOf_encodeTrap, code10_encodeTrap, toNat_ofNat_of_fitsField h])
  -- REGIMM (R116)
  case bltz | bgez | bltzal | bgezal | bltzl | bgezl | bltzall | bgezall | tgei | tgeiu | tlti | tltiu | teqi | tnei =>
    change decode (encodeI _ _ _ _) = _
    rw [decode_regimm (opcodeOf_encodeI ..), decodeRegimm, rtBits_encodeI]
    exact congrArg Except.ok (by simp only [rsOf_encodeI, immOf_encodeI])
  -- COP0, with and without the CO bit (R117)
  case eret | tlbr | tlbwi | tlbwr | tlbp =>
    change decode (encodeCo _) = _
    rw [decode_co (opcodeOf_encodeCo ..) (coBit_encodeCo ..), decodeCo, functOf_encodeCo]
    rfl
  case mfc0 | mtc0 | dmfc0 | dmtc0 =>
    change decode (encodeR _ _ _ _ _ _) = _
    rw [decode_cop0Rs (opcodeOf_encodeR ..) (coBit_encodeR ..), decodeCop0Rs, rsBits_encodeR]
    exact congrArg Except.ok (by simp only [rtOf_encodeR, rdOf_encodeR])
  -- COP1 (R118): the moves, the branches, the formats
  case mfc1 | mtc1 | cfc1 | ctc1 | dmfc1 | dmtc1 =>
    change decode (encodeR _ _ _ _ _ _) = _
    rw [decode_cop1 (opcodeOf_encodeR ..), decodeCop1, rsBits_encodeR]
    exact congrArg Except.ok (by simp only [rtOf_encodeR, rdOf_encodeR])
  case bc1f | bc1t | bc1fl | bc1tl =>
    change decode (encodeI _ _ _ _) = _
    rw [decode_bc (opcodeOf_encodeI ..) (rsBits_encodeI ..), decodeBc, bcBits_encodeI]
    exact congrArg Except.ok (by simp only [immOf_encodeI])
  case addS | subS | mulS | divS | sqrtS | absS | movS | negS | roundLS | truncLS | ceilLS | floorLS | roundWS | truncWS
      | ceilWS | floorWS | cvtDS | cvtWS | cvtLS | cFS | cUnS | cEqS | cUeqS | cOltS | cUltS | cOleS | cUleS | cSfS
      | cNgleS | cSeqS | cNglS | cLtS | cNgeS | cLeS | cNgtS =>
    change decode (encodeR _ _ _ _ _ _) = _
    rw [decode_fmtS (opcodeOf_encodeR ..) (rsBits_encodeR ..), decodeFmtS, functOf_encodeR]
    exact congrArg Except.ok (by simp only [rtOf_encodeR, rdOf_encodeR, saOf_encodeR])
  case addD | subD | mulD | divD | sqrtD | absD | movD | negD | roundLD | truncLD | ceilLD | floorLD | roundWD | truncWD
      | ceilWD | floorWD | cvtSD | cvtWD | cvtLD | cFD | cUnD | cEqD | cUeqD | cOltD | cUltD | cOleD | cUleD | cSfD
      | cNgleD | cSeqD | cNglD | cLtD | cNgeD | cLeD | cNgtD =>
    change decode (encodeR _ _ _ _ _ _) = _
    rw [decode_fmtD (opcodeOf_encodeR ..) (rsBits_encodeR ..), decodeFmtD, functOf_encodeR]
    exact congrArg Except.ok (by simp only [rtOf_encodeR, rdOf_encodeR, saOf_encodeR])
  case cvtSW | cvtDW =>
    change decode (encodeR _ _ _ _ _ _) = _
    rw [decode_fmtW (opcodeOf_encodeR ..) (rsBits_encodeR ..), decodeFmtW, functOf_encodeR]
    exact congrArg Except.ok (by simp only [rdOf_encodeR, saOf_encodeR])
  case cvtSL | cvtDL =>
    change decode (encodeR _ _ _ _ _ _) = _
    rw [decode_fmtL (opcodeOf_encodeR ..) (rsBits_encodeR ..), decodeFmtL, functOf_encodeR]
    exact congrArg Except.ok (by simp only [rdOf_encodeR, saOf_encodeR])
  -- the primary map (R114)
  case j | jal =>
    change decode (encodeJ _ _) = _
    rw [decode, opcodeOf_encodeJ]
    exact congrArg Except.ok (by simp only [targetOf_encodeJ])
  case cop2 =>
    change decode (encodeJ _ _) = _
    rw [decode, opcodeOf_encodeJ]
    exact congrArg Except.ok (by simp only [cofunOf_encodeJ, toNat_ofNat_of_fitsField h])
  case cache =>
    change decode (encodeI _ _ _ _) = _
    rw [decode, opcodeOf_encodeI]
    exact congrArg Except.ok (by simp only [rsOf_encodeI, immOf_encodeI, rtNat_encodeI h])
  -- the rows that are left are the I-type rows of the primary map
  all_goals
    change decode (encodeI _ _ _ _) = _
    rw [decode, opcodeOf_encodeI]
    exact congrArg Except.ok (by simp only [rsOf_encodeI, rtOf_encodeI, immOf_encodeI])

/-- Settles O1, by `decode_encode`. -/
theorem decodeEncode : Obligations.DecodeEncode := decode_encode

/-- Settles O3: each word is the encoding of its instruction. -/
theorem decodeSanity : Obligations.DecodeSanity :=
  ⟨decode_encode (.add 3 1 2) rfl, decode_encode (.ori 1 1 0x8765#16) rfl, decode_encode (.beq 1 2 3#16) rfl,
    decode_encode (.mtc0 8 12) rfl, decode_encode (.mfc1 4 2) rfl, decode_encode (.addS 6 2 4) rfl⟩

/-! ### The fixed bits of a word, by the masks of the opcode table -/

/-- A masked word has the masked fields. -/
theorem and_eq_encodeR {w mask : Word} {o f : BitVec 6} {a b c d : BitVec 5} (ho : opcodeOf w &&& opcodeOf mask = o)
    (ha : rsBits w &&& rsBits mask = a) (hb : rtBits w &&& rtBits mask = b) (hc : rdBits w &&& rdBits mask = c)
    (hd : saBits w &&& saBits mask = d) (hf : functOf w &&& functOf mask = f) : w &&& mask = encodeR o a b c d f := by
  subst ho ha hb hc hd hf
  refine word_of_fields [(26, 6), (21, 5), (16, 5), (11, 5), (6, 5), (0, 6)] (by decide) ?_
  simp only [List.forall_mem_cons, List.not_mem_nil, false_implies, implies_true, and_true, extract_and]
  exact ⟨(opcodeOf_encodeR ..).symm, (rsBits_encodeR ..).symm, (rtBits_encodeR ..).symm, (rdBits_encodeR ..).symm,
    (saBits_encodeR ..).symm, (functOf_encodeR ..).symm⟩

/-- A field that a row fixes. -/
theorem fixed {n : Nat} (x : BitVec n) : x &&& BitVec.allOnes n = x := BitVec.and_allOnes

section
variable (w : Word)

theorem and_opcode : w &&& 0xFC000000#32 = encodeR (opcodeOf w) 0#5 0#5 0#5 0#5 0#6 :=
  and_eq_encodeR (fixed _) (free _) (free _) (free _) (free _) (free _)

theorem and_opcode_funct : w &&& 0xFC00003F#32 = encodeR (opcodeOf w) 0#5 0#5 0#5 0#5 (functOf w) :=
  and_eq_encodeR (fixed _) (free _) (free _) (free _) (free _) (fixed _)

theorem and_opcode_rt : w &&& 0xFC1F0000#32 = encodeR (opcodeOf w) 0#5 (rtBits w) 0#5 0#5 0#6 :=
  and_eq_encodeR (fixed _) (free _) (fixed _) (free _) (free _) (free _)

theorem and_opcode_rs : w &&& 0xFFE00000#32 = encodeR (opcodeOf w) (rsBits w) 0#5 0#5 0#5 0#6 :=
  and_eq_encodeR (fixed _) (fixed _) (free _) (free _) (free _) (free _)

theorem and_opcode_rs_funct : w &&& 0xFFE0003F#32 = encodeR (opcodeOf w) (rsBits w) 0#5 0#5 0#5 (functOf w) :=
  and_eq_encodeR (fixed _) (fixed _) (free _) (free _) (free _) (fixed _)

theorem and_opcode_co_funct :
    w &&& 0xFE00003F#32 = encodeR (opcodeOf w) (rsBits w &&& 0x10#5) 0#5 0#5 0#5 (functOf w) :=
  and_eq_encodeR (fixed _) rfl (free _) (free _) (free _) (fixed _)

theorem and_opcode_rs_bc :
    w &&& 0xFFE30000#32 = encodeR (opcodeOf w) (rsBits w) (rtBits w &&& 3#5) 0#5 0#5 0#6 :=
  and_eq_encodeR (fixed _) (fixed _) rfl (free _) (free _) (free _)

theorem rsBits_and_co {w : Word} (h : coBit w = true) : rsBits w &&& 0x10#5 = 0x10#5 :=
  (by decide : ∀ rs : BitVec 5, rs.getLsbD 4 = true → rs &&& 0x10#5 = 0x10#5) _
    ((BitVec.getLsbD_extractLsb' ..).trans h)

theorem rtBits_and_bc : rtBits w &&& 3#5 = (bcBits w).setWidth 5 := by
  have bc : bcBits w = (rtBits w).extractLsb' 0 2 := by
    apply BitVec.eq_of_getLsbD_eq; intro i hi
    simp only [bcBits, rtBits, BitVec.getLsbD_extractLsb']
    simp [hi, show i < 5 by omega]
  rw [bc]
  exact (by decide : ∀ rt : BitVec 5, rt &&& 3#5 = (rt.extractLsb' 0 2).setWidth 5) _

end

/-! ### What the decoder answers fits its row -/

theorem fitsField_toNat {width : Nat} (x : BitVec width) : fitsField width x.toNat = true := decide_eq_true x.isLt

/-- The instruction is well formed and the word has the fixed bits of its row (R119). -/
structure FitsItsRow (w : Word) (i : Instr) : Prop where
  wellFormed : i.wellFormed = true
  fixed : w &&& i.mask = i.pattern

section
variable {w : Word} {i : Instr}

theorem fitsItsRow_of_decodeSpecial (ho : opcodeOf w = 0x00#6) (h : decodeSpecial w = .ok i) : FitsItsRow w i := by
  unfold decodeSpecial at h
  split at h <;> cases h
  all_goals exact ⟨by simp only [Instr.wellFormed, saNat, code10, code20, fitsField_toNat],
    (and_opcode_funct w).trans (by rw [ho, ‹functOf w = _›]; rfl)⟩

theorem fitsItsRow_of_decodeRegimm (ho : opcodeOf w = 0x01#6) (h : decodeRegimm w = .ok i) : FitsItsRow w i := by
  unfold decodeRegimm at h
  split at h <;> cases h
  all_goals exact ⟨rfl, (and_opcode_rt w).trans (by rw [ho, ‹rtBits w = _›]; rfl)⟩

theorem fitsItsRow_of_decodeCo (ho : opcodeOf w = 0x10#6) (hco : coBit w = true) (h : decodeCo w = .ok i) :
    FitsItsRow w i := by
  unfold decodeCo at h
  split at h <;> cases h
  all_goals exact ⟨rfl, (and_opcode_co_funct w).trans (by rw [ho, rsBits_and_co hco, ‹functOf w = _›]; rfl)⟩

theorem fitsItsRow_of_decodeCop0Rs (ho : opcodeOf w = 0x10#6) (h : decodeCop0Rs w = .ok i) : FitsItsRow w i := by
  unfold decodeCop0Rs at h
  split at h <;> cases h
  all_goals exact ⟨rfl, (and_opcode_rs w).trans (by rw [ho, ‹rsBits w = _›]; rfl)⟩

theorem fitsItsRow_of_decodeCop0 (ho : opcodeOf w = 0x10#6) (h : decodeCop0 w = .ok i) : FitsItsRow w i := by
  unfold decodeCop0 at h
  split at h
  case isTrue hco => exact fitsItsRow_of_decodeCo ho hco h
  case isFalse => exact fitsItsRow_of_decodeCop0Rs ho h

theorem fitsItsRow_of_decodeBc (ho : opcodeOf w = 0x11#6) (hrs : rsBits w = 0x08#5) (h : decodeBc w = .ok i) :
    FitsItsRow w i := by
  unfold decodeBc at h
  split at h <;> cases h
  all_goals exact ⟨rfl, (and_opcode_rs_bc w).trans (by rw [ho, hrs, rtBits_and_bc, ‹bcBits w = _›]; rfl)⟩

theorem fitsItsRow_of_decodeCop1 (ho : opcodeOf w = 0x11#6) (h : decodeCop1 w = .ok i) : FitsItsRow w i := by
  unfold decodeCop1 at h
  split at h
  case h_7 hrs => exact fitsItsRow_of_decodeBc ho hrs h
  case h_8 hrs | h_9 hrs | h_10 hrs | h_11 hrs =>
    dsimp only [decodeFmtS, decodeFmtD, decodeFmtW, decodeFmtL] at h
    split at h <;> cases h
    all_goals exact ⟨rfl, (and_opcode_rs_funct w).trans (by rw [ho, hrs, ‹functOf w = _›]; rfl)⟩
  all_goals cases h
  all_goals exact ⟨rfl, (and_opcode_rs w).trans (by rw [ho, ‹rsBits w = _›]; rfl)⟩

theorem fitsItsRow_of_decode (h : decode w = .ok i) : FitsItsRow w i := by
  unfold decode at h
  split at h
  case h_1 ho => exact fitsItsRow_of_decodeSpecial ho h
  case h_2 ho => exact fitsItsRow_of_decodeRegimm ho h
  case h_17 ho => exact fitsItsRow_of_decodeCop0 ho h
  case h_18 ho => exact fitsItsRow_of_decodeCop1 ho h
  all_goals cases h
  all_goals exact ⟨by simp only [Instr.wellFormed, rtNat, cofunOf, fitsField_toNat],
    (and_opcode w).trans (by rw [‹opcodeOf w = _›]; rfl)⟩

end

/-- Settles O2: the first two parts by the maps of the decoder, the third by `decode_encode`. -/
theorem decodedFitsItsRow : Obligations.DecodedFitsItsRow := by
  intro w i h
  obtain ⟨wellFormed, fixed⟩ := fitsItsRow_of_decode h
  exact ⟨wellFormed, fixed, decode_encode i wellFormed⟩

end Sys2Proof
end

section
/-! SUPPORT. The family 40_controller: the execution mode, how an instruction ends, precise exceptions, and what the
host's operations do to the controller. -/

namespace Sys2Proof.Machine

/-! ### The execution mode (40_controller.md R163, R164) -/

/-- `exec_mode <- m`. -/
def State.withMode (m : ExecMode) (s : State) : State := { s with ctl := { s.ctl with execMode := m } }

/-- The result with its next state, if there is one, changed. -/
def mapNext (f : State → State) : Result → Result
  | .next t => .next (f t)
  | .fault r => .fault r
  | .refused r => .refused r

section
variable (m : ExecMode)

theorem setX_withMode (s : State) (d : Reg) (v : Word) : (s.withMode m).setX d v = (s.setX d v).withMode m := by
  unfold State.setX
  split <;> rfl

theorem setFpBits_withMode (f : Format) (fd : Reg) (bits : Nat) (s : State) :
    (s.withMode m).setFpBits f fd bits = (s.setFpBits f fd bits).withMode m := by
  cases f <;> rfl

theorem sequence_withMode (out : Out) (s : State) : sequence out (s.withMode m) = (sequence out s).withMode m := by
  have delay : (s.withMode m).cpu.delay = s.cpu.delay := rfl
  unfold sequence
  rw [delay]
  cases out <;> cases s.cpu.delay <;> rfl

theorem trapEntry_withMode (code : BitVec 5) (ce : BitVec 2) (s : State) :
    trapEntry code ce (s.withMode m) = (trapEntry code ce s).withMode m := by
  have status : (s.withMode m).status = s.status := rfl
  unfold trapEntry
  rw [status]
  split <;> rfl

theorem boundary_withMode (s : State) : boundary (s.withMode m) = (boundary s).withMode m := by
  have pending : (s.withMode m).ctl.pendingExc = s.ctl.pendingExc := rfl
  have interrupt : (s.withMode m).interruptPending = s.interruptPending := rfl
  unfold boundary
  rw [pending, interrupt]
  split
  · exact trapEntry_withMode m _ _ { s with ctl := { s.ctl with pendingExc := none } }
  · split
    · exact trapEntry_withMode m _ _ s
    · rfl

/-! #### The ways a meaning is written -/

variable {m} {s : State} {body body' : Result}

theorem finish_withMode (out : Out) (u : State) :
    finish out (u.withMode m) = mapNext (State.withMode m) (finish out u) :=
  congrArg Host.Outcome.next (sequence_withMode m out u.count)

/-- A write of a general register, or of a link, at the end of an instruction. -/
theorem finish_setX_withMode (out : Out) (d : Reg) (v : Word) (u : State) :
    finish out ((u.withMode m).setX d v) = mapNext (State.withMode m) (finish out (u.setX d v)) := by
  rw [setX_withMode]
  exact finish_withMode ..

theorem raiseWith_withMode (e : Exception) (ce : BitVec 2) (u : State) :
    raiseWith e ce (u.withMode m) = mapNext (State.withMode m) (raiseWith e ce u) :=
  congrArg Host.Outcome.next (trapEntry_withMode m e.code ce u.count)

theorem writeChecked_withMode (d : Reg) (v : Int) (s : State) :
    writeChecked d v (s.withMode m) = mapNext (State.withMode m) (writeChecked d v s) := by
  unfold writeChecked
  split
  · exact raiseWith_withMode ..
  · exact finish_setX_withMode ..

theorem trapIf_withMode (c : Bool) (s : State) :
    trapIf c (s.withMode m) = mapNext (State.withMode m) (trapIf c s) := by
  unfold trapIf
  split
  · exact raiseWith_withMode ..
  · exact finish_withMode ..

theorem controlTransfer_withMode (h : body' = mapNext (State.withMode m) body) :
    controlTransfer (s.withMode m) body' = mapNext (State.withMode m) (controlTransfer s body) := by
  have delay : (s.withMode m).cpu.delay = s.cpu.delay := rfl
  unfold controlTransfer
  rw [delay]
  split
  · exact h
  · rfl

theorem checkCU1_withMode (h : body' = mapNext (State.withMode m) body) :
    checkCU1 (s.withMode m) body' = mapNext (State.withMode m) (checkCU1 s body) := by
  have status : (s.withMode m).status = s.status := rfl
  unfold checkCU1
  rw [status]
  split
  · exact h
  · exact raiseWith_withMode ..

theorem fpFinish_withMode (c : FpCause) {write : State → State}
    (hw : ∀ u : State, write (u.withMode m) = (write u).withMode m) (s : State) :
    fpFinish c write (s.withMode m) = mapNext (State.withMode m) (fpFinish c write s) := by
  have fcsr : (s.withMode m).fcsr = s.fcsr := rfl
  unfold fpFinish
  rw [fcsr]
  split
  · exact raiseWith_withMode .floatingPoint 0#2 (s.setFpCause c)
  · exact (congrArg complete (hw ((s.setFpCause c).raiseFlags c))).trans (finish_withMode .next _)

theorem fpWrite_withMode (f : Format) (r : FpResult) (fd : Reg) (s : State) :
    checkCU1 (s.withMode m) (fpWrite f r fd (s.withMode m)) =
      mapNext (State.withMode m) (checkCU1 s (fpWrite f r fd s)) :=
  checkCU1_withMode (fpFinish_withMode _ (setFpBits_withMode m f fd _) s)

theorem fpToWord_withMode (rm : Rounding) (f : Format) (fd fs : Reg) (s : State) :
    fpToWord rm f fd fs (s.withMode m) = mapNext (State.withMode m) (fpToWord rm f fd fs s) :=
  checkCU1_withMode (fpFinish_withMode _ (write := fun u => u.setViewW fd _) (fun _ => rfl) s)

theorem fpToLong_withMode (rm : Rounding) (f : Format) (fd fs : Reg) (s : State) :
    fpToLong rm f fd fs (s.withMode m) = mapNext (State.withMode m) (fpToLong rm f fd fs s) :=
  checkCU1_withMode (fpFinish_withMode _ (write := fun u => u.setViewD fd _) (fun _ => rfl) s)

theorem fpCondition_withMode (cond : BitVec 4) (f : Format) (fs ft : Reg) (s : State) :
    fpCondition cond f fs ft (s.withMode m) = mapNext (State.withMode m) (fpCondition cond f fs ft s) :=
  checkCU1_withMode (fpFinish_withMode _ (write := fun u => u.setCond _) (fun _ => rfl) s)

theorem execCtc1_withMode (rt fs : Reg) (s : State) :
    execCtc1 rt fs (s.withMode m) = mapNext (State.withMode m) (execCtc1 rt fs s) := by
  have x : (s.withMode m).x rt = s.x rt := rfl
  refine checkCU1_withMode ?_
  dsimp only
  rw [x]
  split
  · exact raiseWith_withMode .floatingPoint 0#2 (s.setFcr fs (s.x rt))
  · exact finish_withMode .next (s.setFcr fs (s.x rt))

theorem execSc_withMode (rt base : Reg) (offset : BitVec 16) (s : State) :
    execSc rt base offset (s.withMode m) = mapNext (State.withMode m) (execSc rt base offset s) := by
  have llbit : (s.withMode m).cpu.llbit = s.cpu.llbit := rfl
  unfold execSc
  rw [llbit]
  split
  · exact finish_setX_withMode .next rt 1#32 ((s.memWrite _ _).setLL false)
  · exact finish_setX_withMode .next rt 0#32 (s.setLL false)

theorem execEret_withMode (s : State) :
    execEret (s.withMode m) = mapNext (State.withMode m) (execEret s) := by
  have status : (s.withMode m).status = s.status := rfl
  refine controlTransfer_withMode ?_
  unfold exceptionReturn
  rw [status]
  split
  · exact finish_withMode (.jump _) ((s.setCp0 _ _).setLL false)
  · exact finish_withMode (.jump _) ((s.setCp0 _ _).setLL false)

end

/-- Every instruction, by the form of its meaning. -/
theorem exec_withMode (m : ExecMode) (i : Instr) (s : State) :
    exec i (s.withMode m) = mapNext (State.withMode m) (exec i s) := by
  cases i with
  | add | sub | addi => exact writeChecked_withMode ..
  | addu | subu | and | or | xor | nor | slt | sltu | sll | srl | sra | sllv | srlv | srav | addiu | slti | sltiu | andi
  | ori | xori | lui | mfhi | mflo | mfc0 => exact finish_setX_withMode .next _ _ s
  | lb | lbu | lh | lhu | lw | lwl | lwr => exact finish_setX_withMode .next _ _ s.countRead
  | ll => exact finish_setX_withMode .next _ _ (s.setLL true).countRead
  | sb | sh | sw | swl | swr => exact finish_withMode .next (s.memWrite _ _)
  | sc => exact execSc_withMode ..
  | mult | multu | div | divu => exact finish_withMode .next ((s.setHi _).setLo _)
  | mthi => exact finish_withMode .next (s.setHi _)
  | mtlo => exact finish_withMode .next (s.setLo _)
  | mtc0 => exact finish_withMode .next (s.setCp0 _ _)
  | sync | cache => exact finish_withMode .next s
  | j | jr | beq | bne | blez | bgtz | bltz | bgez | beql | bnel | blezl | bgtzl | bltzl | bgezl =>
    exact controlTransfer_withMode (finish_withMode _ s)
  | jal | jalr | bltzal | bgezal | bltzall | bgezall =>
    exact controlTransfer_withMode (finish_setX_withMode _ _ _ s)
  | eret => exact execEret_withMode s
  | tge | tgeu | tlt | tltu | teq | tne | tgei | tgeiu | tlti | tltiu | teqi | tnei => exact trapIf_withMode _ s
  | syscall | brk | tlbr | tlbwi | tlbwr | tlbp | daddi | daddiu | ldl | ldr | lwu | sdl | sdr | lld | ld | scd | sd
  | dsllv | dsrlv | dsrav | dadd | daddu | dsub | dsubu | dmult | dmultu | ddiv | ddivu | dsll | dsrl | dsra | dsll32
  | dsrl32 | dsra32 | dmfc0 | dmtc0 | cop2 | lwc2 | ldc2 | swc2 | sdc2 => exact raiseWith_withMode _ _ s
  | dmfc1 | dmtc1 => exact checkCU1_withMode (raiseWith_withMode _ _ s)
  | mfc1 | cfc1 => exact checkCU1_withMode (finish_setX_withMode .next _ _ s)
  | ctc1 => exact execCtc1_withMode ..
  | mtc1 | movS | movD => exact checkCU1_withMode (finish_withMode .next (s.setFpr _ _))
  | lwc1 | ldc1 => exact checkCU1_withMode (finish_withMode .next (s.countRead.setFpr _ _))
  | swc1 | sdc1 => exact checkCU1_withMode (finish_withMode .next (s.memWrite _ _))
  | bc1f | bc1t | bc1fl | bc1tl => exact controlTransfer_withMode (checkCU1_withMode (finish_withMode _ s))
  | addS | subS | mulS | divS | sqrtS | absS | negS | addD | subD | mulD | divD | sqrtD | absD | negD | cvtSD | cvtSW
  | cvtSL | cvtDS | cvtDW | cvtDL => exact fpWrite_withMode ..
  | roundWS | truncWS | ceilWS | floorWS | cvtWS | roundWD | truncWD | ceilWD | floorWD | cvtWD =>
    exact fpToWord_withMode ..
  | roundLS | truncLS | ceilLS | floorLS | cvtLS | roundLD | truncLD | ceilLD | floorLD | cvtLD =>
    exact fpToLong_withMode ..
  | cFS | cUnS | cEqS | cUeqS | cOltS | cUltS | cOleS | cUleS | cSfS | cNgleS | cSeqS | cNglS | cLtS | cNgeS | cLeS
  | cNgtS | cFD | cUnD | cEqD | cUeqD | cOltD | cUltD | cOleD | cUleD | cSfD | cNgleD | cSeqD | cNglD | cLtD | cNgeD
  | cLeD | cNgtD => exact fpCondition_withMode ..

theorem execRejected_withMode (m : ExecMode) (r : Rejection) (s : State) :
    execRejected r (s.withMode m) = mapNext (State.withMode m) (execRejected r s) := by
  cases r with
  | reservedInstruction => exact raiseWith_withMode _ _ s
  | unimplementedCop1 => exact checkCU1_withMode (fpFinish_withMode _ (fun _ => rfl) s)

theorem executeOne_withMode (m : ExecMode) (w : Word) (s : State) :
    executeOne w (s.withMode m) = mapNext (State.withMode m) (executeOne w s) := by
  unfold executeOne
  split
  · exact exec_withMode ..
  · exact execRejected_withMode ..

theorem cycle_withMode (m : ExecMode) (s : State) :
    cycle (s.withMode m) = mapNext (State.withMode m) (cycle s) := by
  have ready : (s.withMode m).ready = s.ready := rfl
  unfold cycle
  rw [ready, boundary_withMode]
  split
  · exact executeOne_withMode m (boundary s).fetchWord (boundary s).countRead
  · rfl

/-- Settles O43: the cycle commutes with setting the mode, whatever its outcome. -/
theorem execModeIrrelevant : Obligations.ExecModeIrrelevant := by
  intro m s
  have commutes {r : Result} (h : cycle s = r) : cycle (s.withMode m) = mapNext (State.withMode m) r :=
    (cycle_withMode m s).trans (congrArg (mapNext (State.withMode m)) h)
  exact ⟨fun _ h => commutes h, fun _ h => commutes h, fun _ h => commutes h⟩

/-! ### How an instruction ends (40_controller.md R142 to R151) -/

theorem Ends.refused_iff {i : Instr} {s : State} {r : Result} (h : Ends i s r) :
    r = .refused .controlTransferInDelaySlot ↔ ControlTransfer i ∧ s.cpu.delay ≠ .none := by
  cases h with
  | completes u hu hi => exact iff_of_false nofun fun k => hi k.1
  | raises e ce u hu hf hd => exact iff_of_false nofun fun k => k.2 (hd k.1)
  | transfers out u hu hi hd => exact iff_of_false nofun fun k => k.2 hd
  | refuses hi hd => exact iff_of_true rfl ⟨hi, hd⟩

theorem Ends.refusal {i : Instr} {s : State} {r : Result} {e : Refusal} (h : Ends i s r) (hr : r = .refused e) :
    e = .controlTransferInDelaySlot := by
  cases h with
  | completes => cases hr
  | raises => cases hr
  | transfers => cases hr
  | refuses => exact (Host.Outcome.refused.inj hr).symm

/-- Settles O12: of the ways an instruction ends, one is a refusal. -/
theorem transferInSlotRefused : Obligations.TransferInSlotRefused := fun i s =>
  ⟨(exec_ends i s).refused_iff.symm, fun _ => (exec_ends i s).refusal⟩

theorem CycleEffect.counted {s t : State} (h : CycleEffect s t) : Counted s t :=
  ⟨congrArg Ctl.cycles h.ctl, congrArg Ctl.instructions h.ctl⟩

/-- Settles O38: no instruction faults, and a cycle that was not refused was counted. -/
theorem everyInstructionCompletes : Obligations.EveryInstructionCompletes := by
  intro i s notSlot
  cases h : exec i s with
  | next t => exact ⟨t, rfl, (exec_cycleEffect h).counted⟩
  | fault r => exact absurd h (exec_nofault i s r)
  | refused r =>
    obtain rfl := (exec_ends i s).refusal h
    exact absurd ((exec_ends i s).refused_iff.mp h) notSlot

/-- The cycle of an instruction completed, transferred control, or took an exception (40_controller.md R151). -/
theorem Ends.precise {i : Instr} {s t : State} {r : Result} (h : Ends i s r) (hr : r = .next t) :
    (¬ ControlTransfer i ∧ Advances s t) ∨
      (ControlTransfer i ∧ (t.cpu.delay ≠ .none ∨ t.cpu.pc = s.cpu.pc + 8#32 ∨ i = .eret)) ∨ TrapsPrecisely s t := by
  cases h with
  | completes u hu hi =>
    cases hr
    exact .inl ⟨hi, advances_sequence s u.count hu.pc hu.delay⟩
  | raises e ce u _ hf =>
    obtain ⟨v, hv, precise⟩ := raiseWith_precise e ce hf
    cases hv.symm.trans hr
    exact .inr (.inr precise)
  | transfers out u hu hi hd ho =>
    cases hr
    refine .inr (.inl ⟨hi, ?_⟩)
    obtain ho | eret := ho
    · have slot := sequence_branching ho (s := u.count) (hu.delay.trans hd)
      rw [State.count_pc, hu.pc] at slot
      exact slot.imp_right .inl
    · exact .inr (.inr eret)
  | refuses => cases hr

/-- Settles O39: such an instruction advances, or the trap it takes ends at the vector with EXL set. -/
theorem onlyTransfersBranch : Obligations.OnlyTransfersBranch := by
  intro i s t hi ht
  obtain ⟨-, advances⟩ | ⟨control, -⟩ | ⟨_, _, taken, -⟩ := (exec_ends i s).precise ht
  · exact ⟨advances.1, .inl advances⟩
  · exact absurd control hi
  · exact ⟨taken.delay, .inr ⟨taken.pc, taken.exl⟩⟩

/-! ### Precise exceptions (40_controller.md R151, 60_exceptions.md R403) -/

/-- Every next state that the result holds has the Status of `s`, or took an exception from it. -/
structure KeepsStatus (s : State) (r : Result) : Prop where
  next : ∀ t, r = .next t → t.status = s.status ∨ TrapsPrecisely s t

section
variable {s u : State} {body : Result}

theorem keepsStatus_finish (out : Out) (h : u.status = s.status) : KeepsStatus s (finish out u) := by
  constructor
  rintro t ⟨⟩
  exact .inl ((sequence_cp0 out u.count regStatus).trans h)

/-- A write of a general register, or of a link, at the end of an instruction. -/
theorem keepsStatus_setX (out : Out) (d : Reg) (v : Word) (h : u.status = s.status) :
    KeepsStatus s (finish out (u.setX d v)) := keepsStatus_finish out ((u.setX_cp0 d v regStatus).trans h)

theorem keepsStatus_raiseWith (e : Exception) (ce : BitVec 2)
    (hu : u = s ∨ (e = .floatingPoint ∧ Edits [.fcr regFCSR] s u)) : KeepsStatus s (raiseWith e ce u) := by
  obtain ⟨v, hv, precise⟩ := raiseWith_precise e ce hu
  constructor
  rintro t ht
  cases hv.symm.trans ht
  exact .inr precise

theorem keepsStatus_raise (e : Exception) (ce : BitVec 2) (s : State) : KeepsStatus s (raiseWith e ce s) :=
  keepsStatus_raiseWith e ce (.inl rfl)

theorem keepsStatus_storeBytes (va : Word) (bs : List Byte) (s : State) : KeepsStatus s (storeBytes va bs s) :=
  keepsStatus_finish .next (s.memWrite_cp0 va bs regStatus)

theorem keepsStatus_writeChecked (d : Reg) (v : Int) (s : State) : KeepsStatus s (writeChecked d v s) := by
  unfold writeChecked
  split
  · exact keepsStatus_raise _ _ s
  · exact keepsStatus_setX _ _ _ rfl

theorem keepsStatus_trapIf (c : Bool) (s : State) : KeepsStatus s (trapIf c s) := by
  unfold trapIf
  split
  · exact keepsStatus_raise _ _ s
  · exact keepsStatus_finish _ rfl

theorem keepsStatus_controlTransfer (h : KeepsStatus s body) : KeepsStatus s (controlTransfer s body) := by
  unfold controlTransfer
  split
  · exact h
  · exact ⟨fun _ refused => by cases refused⟩

theorem keepsStatus_checkCU1 (h : KeepsStatus s body) : KeepsStatus s (checkCU1 s body) := by
  unfold checkCU1
  split
  · exact h
  · exact keepsStatus_raise _ _ s

theorem keepsStatus_fpFinish (c : FpCause) {write : State → State} (hw : ∀ t, (write t).status = t.status)
    (s : State) : KeepsStatus s (fpFinish c write s) := by
  unfold fpFinish
  split
  · exact keepsStatus_raiseWith _ _ (.inr ⟨rfl, edits_setFpCause s c⟩)
  · exact keepsStatus_finish _ (hw _)

theorem keepsStatus_fpWrite (f : Format) (r : FpResult) (fd : Reg) (s : State) :
    KeepsStatus s (checkCU1 s (fpWrite f r fd s)) :=
  keepsStatus_checkCU1 (keepsStatus_fpFinish _ (fun _ => by cases f <;> rfl) s)

theorem keepsStatus_fpToWord (rm : Rounding) (f : Format) (fd fs : Reg) (s : State) :
    KeepsStatus s (fpToWord rm f fd fs s) :=
  keepsStatus_checkCU1 (keepsStatus_fpFinish _ (write := fun t => t.setViewW fd _) (fun _ => rfl) s)

theorem keepsStatus_fpToLong (rm : Rounding) (f : Format) (fd fs : Reg) (s : State) :
    KeepsStatus s (fpToLong rm f fd fs s) :=
  keepsStatus_checkCU1 (keepsStatus_fpFinish _ (write := fun t => t.setViewD fd _) (fun _ => rfl) s)

theorem keepsStatus_fpCondition (cond : BitVec 4) (f : Format) (fs ft : Reg) (s : State) :
    KeepsStatus s (fpCondition cond f fs ft s) :=
  keepsStatus_checkCU1 (keepsStatus_fpFinish _ (write := fun t => t.setCond _) (fun _ => rfl) s)

theorem keepsStatus_ctc1 (rt fs : Reg) (s : State) : KeepsStatus s (execCtc1 rt fs s) := by
  refine keepsStatus_checkCU1 ?_
  dsimp only
  split
  next h =>
    obtain ⟨rfl, -⟩ := h
    exact keepsStatus_raiseWith _ _ (.inr ⟨rfl, edits_setFcr s regFCSR (s.x rt)⟩)
  · exact keepsStatus_finish _ rfl

theorem keepsStatus_sc (rt base : Reg) (offset : BitVec 16) (s : State) :
    KeepsStatus s (execSc rt base offset s) := by
  unfold execSc
  split
  · exact keepsStatus_setX _ _ _ (s.memWrite_cp0 _ _ regStatus)
  · exact keepsStatus_setX _ _ _ rfl

end

/-- The instructions that complete with another Status (45_system.md R320, R322). -/
def writesStatus : Instr → Bool
  | .mtc0 _ _ | .eret => true
  | _ => false

/-- Every other instruction, by the form of its meaning. -/
theorem exec_keepsStatus {i : Instr} (hi : writesStatus i = false) (s : State) : KeepsStatus s (exec i s) := by
  have same : s.status = s.status := rfl
  cases i with
  | mtc0 | eret => cases hi
  | add | sub | addi => exact keepsStatus_writeChecked ..
  | addu | subu | and | or | xor | nor | slt | sltu | sll | srl | sra | sllv | srlv | srav | addiu | slti | sltiu | andi
  | ori | xori | lui | mfhi | mflo | mfc0 => exact keepsStatus_setX _ _ _ same
  | lb | lbu | lh | lhu | lw | lwl | lwr | ll => exact keepsStatus_setX _ _ _ same
  | sc => exact keepsStatus_sc ..
  | sb | sh | sw | swl | swr => exact keepsStatus_storeBytes _ _ s
  | mult | multu | div | divu | mthi | mtlo | sync | cache => exact keepsStatus_finish _ same
  | j | jr | beq | bne | blez | bgtz | bltz | bgez | beql | bnel | blezl | bgtzl | bltzl | bgezl =>
    exact keepsStatus_controlTransfer (keepsStatus_finish _ same)
  | jal | jalr | bltzal | bgezal | bltzall | bgezall =>
    exact keepsStatus_controlTransfer (keepsStatus_setX _ _ _ same)
  | tge | tgeu | tlt | tltu | teq | tne | tgei | tgeiu | tlti | tltiu | teqi | tnei => exact keepsStatus_trapIf _ s
  | syscall | brk | tlbr | tlbwi | tlbwr | tlbp | daddi | daddiu | ldl | ldr | lwu | sdl | sdr | lld | ld | scd | sd
  | dsllv | dsrlv | dsrav | dadd | daddu | dsub | dsubu | dmult | dmultu | ddiv | ddivu | dsll | dsrl | dsra | dsll32
  | dsrl32 | dsra32 | dmfc0 | dmtc0 | cop2 | lwc2 | ldc2 | swc2 | sdc2 => exact keepsStatus_raise _ _ s
  | dmfc1 | dmtc1 => exact keepsStatus_checkCU1 (keepsStatus_raise _ _ s)
  | mfc1 | cfc1 => exact keepsStatus_checkCU1 (keepsStatus_setX _ _ _ same)
  | ctc1 => exact keepsStatus_ctc1 ..
  | swc1 | sdc1 => exact keepsStatus_checkCU1 (keepsStatus_storeBytes _ _ s)
  | mtc1 | movS | movD | lwc1 | ldc1 => exact keepsStatus_checkCU1 (keepsStatus_finish _ same)
  | bc1f | bc1t | bc1fl | bc1tl =>
    exact keepsStatus_controlTransfer (keepsStatus_checkCU1 (keepsStatus_finish _ same))
  | addS | subS | mulS | divS | sqrtS | absS | negS | addD | subD | mulD | divD | sqrtD | absD | negD | cvtSD | cvtSW
  | cvtSL | cvtDS | cvtDW | cvtDL => exact keepsStatus_fpWrite ..
  | roundWS | truncWS | ceilWS | floorWS | cvtWS | roundWD | truncWD | ceilWD | floorWD | cvtWD =>
    exact keepsStatus_fpToWord ..
  | roundLS | truncLS | ceilLS | floorLS | cvtLS | roundLD | truncLD | ceilLD | floorLD | cvtLD =>
    exact keepsStatus_fpToLong ..
  | cFS | cUnS | cEqS | cUeqS | cOltS | cUltS | cOleS | cUleS | cSfS | cNgleS | cSeqS | cNglS | cLtS | cNgeS | cLeS
  | cNgtS | cFD | cUnD | cEqD | cUeqD | cOltD | cUltD | cOleD | cUleD | cSfD | cNgleD | cSeqD | cNglD | cLtD | cNgeD
  | cLeD | cNgtD => exact keepsStatus_fpCondition ..

/-- ERET clears ERL or EXL (45_system.md R322): it never sets EXL. -/
theorem exceptionReturn_exl {s : State} (h : statusEXL s.status = false) :
    statusEXL (exceptionReturn s).2.status = false := by
  unfold exceptionReturn State.status
  split
  · simpa [State.status, putERL, statusEXL, bitAt_putBit] using h
  · simp

theorem eret_exl {s t : State} (ht : exec .eret s = .next t) (h : statusEXL s.status = false) :
    statusEXL t.status = false := by
  change controlTransfer s (finish (.jump (exceptionReturn s).1) (exceptionReturn s).2) = _ at ht
  unfold controlTransfer at ht
  split at ht
  · cases ht
    exact exceptionReturn_exl h
  · cases ht

/-- Settles O60: EXL is set by trap entry alone, and every way an instruction ends is one of the three. -/
theorem preciseExceptions : Obligations.PreciseExceptions := by
  intro i s t ht
  refine ⟨fun clear raised notMtc0 => ?_, (exec_ends i s).precise ht⟩
  by_cases hi : writesStatus i = false
  · obtain same | precise := (exec_keepsStatus hi s).next t ht
    · rw [same, clear] at raised
      cases raised
    · exact precise
  · cases i with
    | mtc0 rt rd => exact absurd rfl (notMtc0 rt rd)
    | eret =>
      rw [eret_exl ht clear] at raised
      cases raised
    | _ => exact absurd rfl hi

/-! ### The turns of the machine (40_controller.md R156, R157, R160) -/

/-- The boundary leaves of the controller's state all but the pending exception, which it takes (R143). -/
theorem boundary_ctl (s : State) : (boundary s).ctl = { s.ctl with pendingExc := none } := by
  unfold boundary
  split
  · obtain ⟨-, -, ctl, -⟩ := trapEntry_keeps _ _ _
    exact ctl
  next idle =>
    have cleared : { s.ctl with pendingExc := none } = s.ctl := by rw [← idle]
    rw [cleared]
    split
    · obtain ⟨-, -, ctl, -⟩ := trapEntry_keeps _ _ s
      exact ctl
    · rfl

theorem boundary_agenda (s : State) : (boundary s).agenda = s.agenda := by
  unfold boundary
  split
  · obtain ⟨-, -, -, agenda, -⟩ := trapEntry_keeps _ _ _
    exact agenda
  · split
    · obtain ⟨-, -, -, agenda, -⟩ := trapEntry_keeps _ _ s
      exact agenda
    · rfl

theorem cycle_of_ready {s : State} (h : s.ready = true) :
    cycle s = executeOne (boundary s).fetchWord (boundary s).countRead := if_pos h

theorem ready_of {s : State} (hi : s.ctl.initialized = true) (hm : s.mem.memReady = true) : s.ready = true := by
  rw [State.ready, hi, hm, Bool.and_self]

section
variable {s u : State} (hs : s.ctl.runState ≠ .stepping)
include hs

/-- With the host yielding or out of moves, the controller makes its turn. -/
theorem step_controllerTurn
    (h : s.agenda = [] ∧ u = s ∨ ∃ rest, s.agenda = .yield :: rest ∧ u = { s with agenda := rest }) :
    step s = controllerTurn u := by
  unfold step machineTurn
  obtain ⟨agenda, rfl⟩ | ⟨rest, agenda, rfl⟩ := h
  · rw [agenda]
    cases hr : u.ctl.runState with
    | stepping => exact absurd hr hs
    | _ => rfl
  · rw [agenda]
    cases hr : s.ctl.runState with
    | stepping => exact absurd hr hs
    | _ => rfl

theorem step_hostCall {op : HostOp} {rest : List HostMove} (h : s.agenda = .call op :: rest) :
    step s = hostCall op { s with agenda := rest } := by
  unfold step machineTurn
  rw [h]
  cases hr : s.ctl.runState with
  | stepping => exact absurd hr hs
  | _ => rfl

end

theorem step_of_stepping {s : State} (hs : s.ctl.runState = .stepping) : step s = stepTurn s := by
  unfold step machineTurn controllerTurn
  rw [hs]

theorem runTurn_next {ceiling : Option Nat} {s t : State} (h : cycle s = .next t) :
    runTurn ceiling s = .next (afterCycle ceiling t) := by
  rw [runTurn, h]

theorem runTurn_refused {ceiling : Option Nat} {s : State} {r : Refusal} (h : cycle s = .refused r) :
    runTurn ceiling s = .refused r := by
  rw [runTurn, h]

/-- Settles O35: the word fetched is the one that memory holds, and the turn of `run` is a cycle and its checks. -/
theorem stepRunsTheDecodedInstruction : Obligations.StepRunsTheDecodedInstruction := by
  rintro s u _ w i hi hm hs hu rfl holds hw
  have turn : step s = runTurn Config.runCeiling u := by
    rw [step_controllerTurn (by rw [hs]; decide) hu]
    have running : u.ctl.runState = .running := by
      obtain ⟨-, rfl⟩ | ⟨_, -, rfl⟩ := hu <;> exact hs
    rw [controllerTurn, running]
  have ready : u.ready = true := by
    obtain ⟨-, rfl⟩ | ⟨_, -, rfl⟩ := hu <;> exact ready_of hi hm
  have fetched : (boundary u).fetchWord = w :=
    MemSys.holds_unique rfl ((boundary u).holds_memValue 32 4 rfl _) holds
  have runs : cycle u = exec i (boundary u).countRead := by
    rw [cycle_of_ready ready, executeOne, fetched, hw]
  rw [turn]
  exact ⟨fun t ht => runTurn_next (runs.trans ht), fun r hr => runTurn_refused (runs.trans hr)⟩

theorem hasBreakpoint_iff (s : State) (a : Word) :
    s.hasBreakpoint a = true ↔ a.toNat < Config.bpTableSize ∧ a.toNat ∈ s.ctl.bp := by
  simp [State.hasBreakpoint]

/-- The run state that the checks of `run` leave (R156). -/
theorem afterCycle_runState (ceiling : Option Nat) (s : State) :
    (afterCycle ceiling s).ctl.runState =
      if s.hasBreakpoint s.cpu.pc then .paused
      else if ceilingReached ceiling (s.ctl.runCount + 1) then .stopped
      else s.ctl.runState := rfl

theorem ceilingReached_iff (ceiling : Option Nat) (count : Nat) :
    ceilingReached ceiling count = true ↔ ∃ n, ceiling = some n ∧ n ≤ count := by
  cases ceiling <;> simp [ceilingReached]

/-- Settles O37: the checks decide the run state, and the return of `run` follows it. -/
theorem checksAfterACycle : Obligations.ChecksAfterACycle := by
  intro ceiling s
  have noBreakpoint (absent : Config.bpTableSize ≤ s.cpu.pc.toNat ∨ s.cpu.pc.toNat ∉ s.ctl.bp) :
      ¬ s.hasBreakpoint s.cpu.pc = true := by
    rw [hasBreakpoint_iff]
    exact fun ⟨inside, listed⟩ => absent.elim inside.not_ge fun h => h listed
  obtain ⟨stays, returns⟩ := returnRun_spec [] (runChecks ceiling s)
  refine ⟨rfl, fun inside listed => ?breakpoint, fun absent => ⟨fun n hn reached => ?ceiling, fun below => ?goesOn⟩,
    fun h => ?inProgress, fun q ended call => ?returned, fun _ _ _ _ => rfl⟩
  case breakpoint =>
    rw [afterCycle_runState, if_pos ((hasBreakpoint_iff ..).mpr ⟨inside, listed⟩)]
  case ceiling =>
    rw [afterCycle_runState, if_neg (noBreakpoint absent), if_pos ((ceilingReached_iff ..).mpr ⟨n, hn, reached⟩)]
  case goesOn =>
    have notReached : ¬ ceilingReached ceiling (s.ctl.runCount + 1) = true := by
      rw [ceilingReached_iff]
      exact fun ⟨n, hn, reached⟩ => (below n hn).not_ge reached
    rw [afterCycle_runState, if_neg (noBreakpoint absent), if_neg notReached]
  case inProgress =>
    rw [afterCycle, stays h]
    exact ⟨rfl, rfl⟩
  case returned =>
    rw [afterCycle, returns q ended call]
    exact ⟨rfl, rfl⟩

/-! ### `step()` (40_controller.md R160) -/

/-- The state that `step()` enters. -/
def State.inStep (s : State) : State :=
  { s with ctl := { s.ctl with runState := .stepping, stepReturn := s.ctl.runState } }

theorem hostStep_idle {s : State} (ready : s.ready = true)
    (idle : s.ctl.runState = .stopped ∨ s.ctl.runState = .paused) : hostOp .step s = .entered s.inStep := by
  dsimp only [hostOp, hostStep]
  rw [if_pos ready, State.inStep]
  obtain idle | idle := idle <;> rw [idle]

theorem hostStep_running {s : State} (ready : s.ready = true) (running : s.ctl.runState = .running) :
    hostOp .step s = .ok (.flag false) s := by
  dsimp only [hostOp, hostStep]
  rw [if_pos ready, running]

theorem hostCall_entered {op : HostOp} {s t : State} (h : hostOp op s = .entered t) : hostCall op s = .next t := by
  rw [hostCall, h]

theorem hostCall_fatal {op : HostOp} {s : State} (h : hostOp op s = .fatal) : hostCall op s = .fault .fatal := by
  rw [hostCall, h]

/-- An operation that returns is recorded; one that leaves Running with a run in progress is followed by its return
(R178). -/
theorem hostCall_ok {op : HostOp} {s t : State} {r : HostReply} (h : hostOp op s = .ok r t) :
    (t.ctl.runState = .running ∨ t.runCall = none → hostCall op s = .next { t with replies := [r] }) ∧
    (∀ q, t.ctl.runState ≠ .running → t.runCall = some q →
      hostCall op s = .next { t with runCall := none, replies := [r, q] }) := by
  obtain ⟨stays, returns⟩ := returnRun_spec [r] { t with replies := [r] }
  rw [hostCall, h]
  exact ⟨fun k => congrArg Host.Outcome.next (stays k),
    fun q ended call => congrArg Host.Outcome.next (returns q ended call)⟩

theorem stepTurn_next {s t : State} (h : cycle s = .next t) :
    stepTurn s = .next { t with ctl := { t.ctl with runState := t.ctl.stepReturn }, replies := [.flag true] } := by
  rw [stepTurn, h]

/-- The controller's state after a cycle: the pending exception taken, and the cycle counted (R143, R150). -/
theorem cycle_ctl {s t : State} (h : cycle s = .next t) :
    t.ctl = { s.ctl with
      pendingExc := none, cycles := s.ctl.cycles + 1#64, instructions := s.ctl.instructions + 1#64 } := by
  have counted : t.ctl = { (boundary s).ctl with
      cycles := (boundary s).ctl.cycles + 1#64, instructions := (boundary s).ctl.instructions + 1#64 } :=
    (cycle_cycleEffect h).ctl
  rw [counted, boundary_ctl]

theorem cycle_agenda {s t : State} (h : cycle s = .next t) : t.agenda = s.agenda :=
  (cycle_cycleEffect h).agenda.trans (boundary_agenda s)

/-- Settles O36: the entry is a host call, the second step the turn of Stepping. -/
theorem hostStepRunsOneInstruction : Obligations.HostStepRunsOneInstruction := by
  intro s rest hi hm agenda
  have ready : State.ready { s with agenda := rest } = true := ready_of hi hm
  refine ⟨fun idle => ?_, fun running => ?_⟩
  · have notStepping : s.ctl.runState ≠ .stepping := by
      obtain idle | idle := idle <;> rw [idle] <;> decide
    refine ⟨State.inStep { s with agenda := rest },
      (step_hostCall notStepping agenda).trans (hostCall_entered (hostStep_idle ready idle)), rfl, rfl, rfl, rfl, rfl,
      rfl, rfl, rfl, fun t ht => ?_⟩
    have cycled : cycle (State.inStep { s with agenda := rest }) = .next t :=
      (cycle_of_ready (s := State.inStep _) ready).trans ht
    have ctl := cycle_ctl cycled
    refine ⟨_, (step_of_stepping rfl).trans (stepTurn_next cycled), ?_, rfl, (cycle_run cycled).2, rfl, rfl,
      cycle_agenda cycled, ?_⟩
    · exact congrArg Ctl.stepReturn ctl
    · rw [ctl]
      exact ⟨rfl, rfl, rfl, rfl, rfl⟩
  · rw [step_hostCall (by rw [running]; decide) agenda]
    exact (hostCall_ok (hostStep_running ready running)).1 (.inl running)

/-- Settles O59: outside Stepping a step with a call at the head of the moves is that call. -/
theorem hostMovesBetweenCycles : Obligations.HostMovesBetweenCycles := by
  intro s op rest hs agenda
  rw [step_hostCall hs agenda]
  exact ⟨fun _ _ => hostCall_ok, fun _ => hostCall_entered, hostCall_fatal⟩

/-! ### The run state, breakpoints, registers and exceptions by the host (40_controller.md R155 to R173) -/

theorem enterRun_spec (answer : HostReply) {s : State} (ready : s.ready = true) :
    (s.ctl.runState = .running → enterRun answer s = .ok answer s) ∧
    (s.ctl.runState ≠ .running → enterRun answer s = .entered { s with
      ctl := { s.ctl with runState := .running, runCount := 0 }, runCall := some answer }) := by
  rw [enterRun, if_pos ready]
  exact ⟨fun running => if_pos running, fun ended => if_neg ended⟩

/-- Settles O53: each operation by its rule. -/
theorem runStateOperations : Obligations.RunStateOperations := by
  refine ⟨fun s => ⟨fun running => ?_, fun ended => ?_, ⟨_, rfl, rfl, rfl⟩⟩, fun s ready => ?_⟩
  · exact ⟨s.setRunState .paused, congrArg (HostResult.ok .done) (if_pos running), rfl, rfl⟩
  · exact congrArg (HostResult.ok .done) (if_neg ended)
  · obtain ⟨runs, runEntered⟩ := enterRun_spec .done ready
    obtain ⟨sets, setEntered⟩ := enterRun_spec (.flag true) ready
    refine ⟨fun running => ⟨runs running, sets running⟩, fun ended => ⟨runEntered ended, setEntered ended⟩, ?_, rfl,
      rfl⟩
    rintro r (rfl | rfl)
    · exact ⟨_, rfl, rfl, rfl⟩
    · exact ⟨_, rfl, rfl, rfl⟩

theorem hasBreakpoint_insert {a : Word} (s : State) (ha : a.toNat < Config.bpTableSize) (c : Word) :
    State.hasBreakpoint { s with ctl := { s.ctl with bp := bpInsert a.toNat s.ctl.bp } } c =
      (decide (c = a) || s.hasBreakpoint c) := by
  rw [Bool.eq_iff_iff, Bool.or_eq_true, decide_eq_true_eq, hasBreakpoint_iff, hasBreakpoint_iff, mem_bpInsert,
    BitVec.toNat_inj]
  constructor
  · rintro ⟨inside, rfl | listed⟩
    · exact .inl rfl
    · exact .inr ⟨inside, listed⟩
  · rintro (rfl | ⟨inside, listed⟩)
    · exact ⟨ha, .inl rfl⟩
    · exact ⟨inside, .inr listed⟩

theorem hasBreakpoint_remove (a : Word) (s : State) (c : Word) :
    State.hasBreakpoint { s with ctl := { s.ctl with bp := s.ctl.bp.filter (· ≠ a.toNat) } } c =
      (decide (c ≠ a) && s.hasBreakpoint c) := by
  rw [Bool.eq_iff_iff, Bool.and_eq_true, decide_eq_true_eq, hasBreakpoint_iff, hasBreakpoint_iff, List.mem_filter,
    decide_eq_true_eq, Ne, BitVec.toNat_inj]
  tauto

/-- Settles O54: what is in the table after an insertion and after a removal. -/
theorem breakpoints : Obligations.Breakpoints := by
  intro s a _
  refine ⟨fun inside => ⟨?_, ?_⟩, fun beyond => ⟨?_, ?_, ?_⟩, rfl⟩
  · exact ⟨_, if_pos inside, hasBreakpoint_insert s inside, rfl⟩
  · exact ⟨_, if_pos inside, hasBreakpoint_remove a s, rfl⟩
  · exact if_neg beyond.not_gt
  · exact if_neg beyond.not_gt
  · have outside : s.hasBreakpoint a = false := by
      rw [← Bool.not_eq_true, hasBreakpoint_iff]
      exact fun ⟨inside, _⟩ => beyond.not_gt inside
    exact congrArg (fun b => HostResult.ok (.flag b) s) outside

theorem hostIndex_val (r : Reg) : hostIndex (r.val : Int) = some r := by
  have bound := r.isLt
  simp [hostIndex, bound]

theorem hostIndex_out {i : Int} (h : i < 0 ∨ 31 < i) : hostIndex i = none := dif_neg (by omega)

/-- Settles O55: an index that names a register is that register's number. -/
theorem coprocessorAccessors : Obligations.CoprocessorAccessors := by
  intro s i v d
  refine ⟨?_, fun out => ?_⟩
  · rintro r rfl
    dsimp only [hostOp, hostReadCp0, hostReadCp1, hostWriteCp0, hostWriteCp1]
    rw [hostIndex_val]
    exact ⟨rfl, rfl, ⟨_, rfl, by simp, (edits_setCp0 s r v).only, rfl, rfl, rfl⟩,
      ⟨_, rfl, by simp, (edits_setFpr s r d).only, rfl, rfl, rfl⟩⟩
  · dsimp only [hostOp, hostReadCp0, hostReadCp1, hostWriteCp0, hostWriteCp1]
    rw [hostIndex_out out]
    exact ⟨rfl, rfl, rfl, rfl⟩

/-- Trap entry depends on the registers alone. -/
theorem TrapTaken.of_cpu_eq {code : BitVec 5} {ce : BitVec 2} {s s' t : State} (h : TrapTaken code ce s' t)
    (cpu : s'.cpu = s.cpu) : TrapTaken code ce s t := by
  obtain ⟨_, _, _, _, _, _⟩ := s
  obtain ⟨_, _, _, _, _, _⟩ := s'
  obtain rfl := cpu
  exact ⟨h.pc, h.delay, h.epc, h.bd, h.excCode, h.ce, h.causeRest, h.exl, h.statusRest⟩

theorem boundary_pending {s : State} {p : PendingExc} (h : s.ctl.pendingExc = some p) :
    boundary s = trapEntry p.code p.ce { s with ctl := { s.ctl with pendingExc := none } } := by
  rw [boundary, h]

theorem hostHandleException_pending {s : State} {p : PendingExc} (h : s.ctl.pendingExc = some p) :
    hostOp .handleException s =
      .ok (.flag true) (trapEntry p.code p.ce { s with ctl := { s.ctl with pendingExc := none } }) := by
  dsimp only [hostOp, hostHandleException]
  rw [h]

theorem hostHandleException_none {s : State} (h : s.ctl.pendingExc = none) :
    hostOp .handleException s = .ok (.flag false) s := by
  dsimp only [hostOp, hostHandleException]
  rw [h]

/-- An integer that fits in `n` bits is the value of its bits. -/
theorem toNat_ofInt_of_fits {n : Nat} {i : Int} (h0 : 0 ≤ i) (h : i < 2 ^ n) :
    ((BitVec.ofInt n i).toNat : Int) = i := by
  rw [BitVec.toNat_ofInt, Int.toNat_of_nonneg (Int.emod_nonneg _ (by positivity))]
  exact Int.emod_eq_of_lt h0 (by exact_mod_cast h)

/-- Settles O56: the pair recorded is the one named, and taking it is trap entry. -/
theorem hostExceptions : Obligations.HostExceptions := by
  intro s
  refine ⟨fun code ce idle c0 c1 e0 e1 => ?_, fun code ce h => ?_, fun p pending => ?_, hostHandleException_none⟩
  · refine ⟨_, ⟨BitVec.ofInt 5 code, BitVec.ofInt 2 ce⟩, if_pos ⟨idle, c0, c1, e0, e1⟩, rfl,
      toNat_ofInt_of_fits c0 (by omega), toNat_ofInt_of_fits e0 (by omega), rfl, ?_⟩
    rw [boundary_pending rfl]
    obtain ⟨taken, -⟩ := trapEntry_spec (BitVec.ofInt 5 code) (BitVec.ofInt 2 ce)
      { s with ctl := { s.ctl with pendingExc := none } }
    exact taken.of_cpu_eq rfl
  · refine if_neg fun ⟨idle, c0, c1, e0, e1⟩ => ?_
    obtain pending | outside := h
    · exact pending idle
    · omega
  · obtain ⟨taken, only, ctl⟩ := trapEntry_spec p.code p.ce { s with ctl := { s.ctl with pendingExc := none } }
    exact ⟨_, hostHandleException_pending pending, taken.of_cpu_eq rfl, ctl, only⟩

end Sys2Proof.Machine
end

section
/-! SUPPORT. The family 41_alu: the rows of SPECIAL and of the primary map by their fixed bits, checked results, and
the results of the ALU as arithmetic. -/

namespace Sys2Proof.Machine

/-! ### The words of a row (30_encoding.md R114, R115) -/

/-- A row of SPECIAL that fixes `funct`; the map is read at the row named. -/
theorem encodes_special (f : BitVec 6) {i : Word → Instr}
    (row : ∀ w, functOf w = f → decodeSpecial w = .ok (i w) := by intro w h; rw [decodeSpecial, h]; rfl) :
    Encodes (encodeR 0x00#6 0#5 0#5 0#5 0#5 f) 0xFC00003F#32 i := by
  intro w hw
  have opcode : opcodeOf w = 0x00#6 := (extract_of_mask hw 26 6 rfl).trans (opcodeOf_encodeR ..)
  have funct : functOf w = f := (extract_of_mask hw 0 6 rfl).trans (functOf_encodeR ..)
  exact (decode_special opcode).trans (row w funct)

/-- A row of the primary map that fixes the opcode alone; the map is read at the row named. -/
theorem encodes_primary (o : BitVec 6) {i : Word → Instr}
    (row : ∀ w, opcodeOf w = o → decode w = .ok (i w) := by intro w h; rw [decode, h]; rfl) :
    Encodes (encodeR o 0#5 0#5 0#5 0#5 0#6) 0xFC000000#32 i :=
  fun w hw => row w ((extract_of_mask hw 26 6 rfl).trans (opcodeOf_encodeR ..))

/-! ### Results that are checked or written -/

theorem overflows32_iff (v : Int) : overflows32 v = true ↔ v < -2 ^ 31 ∨ 2 ^ 31 - 1 < v := by
  rw [overflows32, Bool.or_eq_true, decide_eq_true_iff, decide_eq_true_iff]

/-- `writeChecked` is the rule of R214. -/
theorem checksOverflow_of {i : Instr} {s : State} {d : Reg} {v : Int} (he : exec i s = writeChecked d v s) :
    ChecksOverflow i s d v := by
  refine ⟨fun outside => ?_, fun low high => ?_⟩
  · exact traps_of (he.trans (if_pos ((overflows32_iff v).mpr outside))) rfl
  · have fits : ¬ overflows32 v = true := by rw [overflows32_iff]; omega
    exact writesX_of (he.trans (if_neg fits))

/-- `writesX_of`, for a result that the rule writes in another form. -/
theorem writesX_of_eq {i : Instr} {s : State} {d : Reg} {u v : Word} (he : exec i s = writeGpr d u s) (hv : u = v) :
    WritesX i s d v := hv ▸ writesX_of he

/-! ### The results as arithmetic -/

section
variable (x y : Word) (imm : BitVec 16) (sa : Nat)

theorem sub_eq_ofInt : x - y = BitVec.ofInt 32 (x.toNat - y.toNat) := by
  rw [Int.sub_eq_add_neg, BitVec.ofInt_add, BitVec.ofInt_neg, BitVec.ofInt_natCast, BitVec.ofInt_natCast,
    BitVec.ofNat_toNat, BitVec.ofNat_toNat, BitVec.setWidth_eq, BitVec.setWidth_eq, BitVec.sub_eq_add_neg]

theorem add_sext_eq_ofInt : x + sext imm = BitVec.ofInt 32 (x.toNat + imm.toInt) := by
  rw [BitVec.ofInt_add, ← sext_eq_ofInt, BitVec.ofInt_natCast, BitVec.ofNat_toNat, BitVec.setWidth_eq]

theorem upper_eq_ofNat : upper imm = BitVec.ofNat 32 (imm.toNat * 2 ^ 16) := by
  apply BitVec.eq_of_toNat_eq
  have := imm.isLt
  rw [upper, BitVec.toNat_append, BitVec.toNat_ofNat, BitVec.toNat_ofNat, Nat.zero_mod, Nat.or_zero, Nat.shiftLeft_eq,
    Nat.mod_eq_of_lt (by omega)]

/-- The bit of a comparison is 1 exactly when the condition holds (R204). -/
theorem boolWord_eq_ite {b : Bool} {c : Prop} [Decidable c] (h : b = true ↔ c) :
    boolWord b = if c then 1#32 else 0#32 := by
  rw [boolWord]; exact if_congr h rfl rfl

theorem boolWord_slt : boolWord (x.slt y) = if x.toInt < y.toInt then 1#32 else 0#32 :=
  boolWord_eq_ite BitVec.slt_iff_toInt_lt

theorem boolWord_ult : boolWord (x.ult y) = if x.toNat < y.toNat then 1#32 else 0#32 :=
  boolWord_eq_ite BitVec.ult_iff_toNat_lt

theorem shiftLeft_eq_ofNat : x <<< sa = BitVec.ofNat 32 (x.toNat * 2 ^ sa) :=
  congrArg (BitVec.ofNat 32) (Nat.shiftLeft_eq ..)

theorem ushiftRight_eq_ofNat : x >>> sa = BitVec.ofNat 32 (x.toNat / 2 ^ sa) := by
  rw [← Nat.shiftRight_eq_div_pow, ← BitVec.toNat_ushiftRight, BitVec.ofNat_toNat, BitVec.setWidth_eq]

theorem sshiftRight_eq_ofInt : x.sshiftRight sa = BitVec.ofInt 32 (x.toInt / 2 ^ sa) := by
  rw [BitVec.sshiftRight_eq, Int.shiftRight_eq_div_pow, Nat.cast_pow, Nat.cast_ofNat]

end

/-! ### The obligations -/

/-- Settles O5: each row ends in `writeChecked` of the exact result. -/
theorem checkedArithmetic : Obligations.CheckedArithmetic :=
  ⟨encodes_special 0x20#6,
    encodes_special 0x22#6,
    encodes_primary 0x08#6,
    fun _ _ _ _ => checksOverflow_of rfl,
    fun _ _ _ _ => checksOverflow_of rfl,
    fun _ _ _ imm => toInt_sext imm ▸ checksOverflow_of rfl⟩

/-- Settles O6: each row writes its result, here in the form of its rule. -/
theorem arithmeticAndLogic : Obligations.ArithmeticAndLogic :=
  ⟨encodes_special 0x21#6,
    encodes_special 0x23#6,
    encodes_primary 0x09#6,
    encodes_special 0x24#6,
    encodes_special 0x25#6,
    encodes_special 0x26#6,
    encodes_special 0x27#6,
    encodes_primary 0x0C#6,
    encodes_primary 0x0D#6,
    encodes_primary 0x0E#6,
    encodes_primary 0x0F#6,
    fun _ _ _ _ => writesX_of_eq rfl (BitVec.add_def ..),
    fun _ _ _ _ => writesX_of_eq rfl (sub_eq_ofInt ..),
    fun _ _ _ _ => writesX_of_eq rfl (add_sext_eq_ofInt ..),
    fun _ _ _ _ => writesX_of rfl,
    fun _ _ _ _ => writesX_of rfl,
    fun _ _ _ _ => writesX_of rfl,
    fun _ _ _ _ => writesX_of rfl,
    fun _ _ _ imm => zext_eq_ofNat imm ▸ writesX_of rfl,
    fun _ _ _ imm => zext_eq_ofNat imm ▸ writesX_of rfl,
    fun _ _ _ imm => zext_eq_ofNat imm ▸ writesX_of rfl,
    fun _ _ _ => writesX_of_eq rfl (upper_eq_ofNat _)⟩

/-- Settles O7: each row writes its result, here as a comparison, a product or a quotient. -/
theorem compareAndShift : Obligations.CompareAndShift :=
  ⟨encodes_special 0x2A#6,
    encodes_special 0x2B#6,
    encodes_primary 0x0A#6,
    encodes_primary 0x0B#6,
    encodes_special 0x00#6,
    encodes_special 0x02#6,
    encodes_special 0x03#6,
    encodes_special 0x04#6,
    encodes_special 0x06#6,
    encodes_special 0x07#6,
    fun _ _ _ _ => writesX_of_eq rfl (boolWord_slt ..),
    fun _ _ _ _ => writesX_of_eq rfl (boolWord_ult ..),
    fun _ _ _ imm => toInt_sext imm ▸ writesX_of_eq rfl (boolWord_slt ..),
    fun _ _ _ imm => sext_eq_ofInt imm ▸ writesX_of_eq rfl (boolWord_ult ..),
    fun _ _ _ _ => writesX_of_eq rfl (shiftLeft_eq_ofNat ..),
    fun _ _ _ _ => writesX_of_eq rfl (ushiftRight_eq_ofNat ..),
    fun _ _ _ _ => writesX_of_eq rfl (sshiftRight_eq_ofInt ..),
    fun _ _ _ _ => writesX_of_eq rfl (shiftLeft_eq_ofNat ..),
    fun _ _ _ _ => writesX_of_eq rfl (ushiftRight_eq_ofNat ..),
    fun _ _ _ _ => writesX_of_eq rfl (sshiftRight_eq_ofInt ..)⟩

end Sys2Proof.Machine
end

section
/-! SUPPORT. The family 42_muldiv: the write of HI and LO, the values that multiplications and divisions leave there,
and the laws of truncated division. -/

namespace Sys2Proof.Machine

/-! ### The write of HI and LO -/

section
variable {i : Instr} {s : State}

theorem Completes.imp {parts : List Part} {p q : State → Prop} (h : Completes i s parts p) (hpq : ∀ t, p t → q t) :
    Completes i s parts q := by
  obtain ⟨t, next, advances, counted, frame, holds⟩ := h
  exact ⟨t, next, advances, counted, frame, hpq t holds⟩

theorem Completes.next {parts : List Part} {p : State → Prop} (h : Completes i s parts p) :
    ∃ t, exec i s = .next t ∧ p t := by
  obtain ⟨t, next, -, -, -, holds⟩ := h
  exact ⟨t, next, holds⟩

theorem completes_writeHiLo {hi lo : Word} (he : exec i s = writeHiLo hi lo s) :
    Completes i s [.hi, .lo] (fun t => t.cpu.hi = hi ∧ t.cpu.lo = lo) :=
  completes_of he ((edits_setHi s hi).trans (edits_setLo _ lo)) ⟨sequence_hi .., sequence_lo ..⟩

end

/-! ### Products (R230, R231) -/

section
variable (x y : Word)

theorem append_halves (p : DWord) : p.extractLsb' 32 32 ++ p.extractLsb' 0 32 = p :=
  (BitVec.extractLsb'_append_extractLsb'_eq_extractLsb' (start₁ := 0) rfl).trans BitVec.extractLsb'_eq_self

/-- A signed product of two words is at most 2^62 in magnitude, so it fits in 64 bits. -/
theorem toInt_product : (BitVec.ofInt 64 (x.toInt * y.toInt)).toInt = x.toInt * y.toInt := by
  have low : -2 ^ (32 * 2 - 2) ≤ x.toInt * y.toInt := BitVec.le_toInt_mul_toInt
  have high : x.toInt * y.toInt ≤ 2 ^ (32 * 2 - 2) := BitVec.toInt_mul_toInt_le
  exact BitVec.toInt_ofInt_eq_self (by decide) (by omega) (by omega)

theorem toNat_product : (BitVec.ofNat 64 (x.toNat * y.toNat)).toNat = x.toNat * y.toNat := by
  have fits : x.toNat * y.toNat < 2 ^ 32 * 2 ^ 32 := Nat.mul_lt_mul'' x.isLt y.isLt
  rw [BitVec.toNat_ofNat, Nat.mod_eq_of_lt (by omega)]

end

/-! ### Quotients and remainders (R232, R233) -/

section
variable {a b : Word}

theorem ne_zero_of_toInt (h : b.toInt ≠ 0) : b ≠ 0#32 := fun zero => h (zero ▸ rfl)

theorem divSigned_of_zero (h : b.toInt = 0) :
    divSigned a b = ((if 0 ≤ a.toInt then 0xFFFFFFFF#32 else 0x00000001#32), a) :=
  if_pos (BitVec.eq_of_toInt_eq h)

theorem divSigned_of_overflow (ha : a.toInt = -2 ^ 31) (hb : b.toInt = -1) :
    divSigned a b = (0x80000000#32, 0x00000000#32) := by
  have nonzero : b ≠ 0#32 := ne_zero_of_toInt (by omega)
  rw [divSigned, if_neg nonzero, if_pos ⟨ha, hb⟩]

/-- But for -2^31 / -1 the truncated quotient and remainder are themselves words. -/
theorem toInt_divSigned (hb : b.toInt ≠ 0) (h : ¬ (a.toInt = -2 ^ 31 ∧ b.toInt = -1)) :
    (divSigned a b).1.toInt = a.toInt.tdiv b.toInt ∧ (divSigned a b).2.toInt = a.toInt.tmod b.toInt := by
  have fits : a ≠ BitVec.intMin 32 ∨ b ≠ -1#32 := by
    by_contra! overflow
    obtain ⟨rfl, rfl⟩ := overflow
    exact h (by decide)
  rw [divSigned, if_neg (ne_zero_of_toInt hb), if_neg h, ← BitVec.toInt_sdiv_of_ne_or_ne a b fits,
    ← BitVec.toInt_srem, BitVec.ofInt_toInt, BitVec.ofInt_toInt]
  exact ⟨rfl, rfl⟩

theorem divUnsigned_of_zero (h : b.toNat = 0) : divUnsigned a b = (0xFFFFFFFF#32, a) :=
  if_pos (BitVec.eq_of_toNat_eq h)

theorem toNat_divUnsigned (hb : b.toNat ≠ 0) :
    (divUnsigned a b).1.toNat = a.toNat / b.toNat ∧ (divUnsigned a b).2.toNat = a.toNat % b.toNat := by
  have nonzero : b ≠ 0#32 := fun zero => hb (zero ▸ rfl)
  rw [divUnsigned, if_neg nonzero]
  exact ⟨Nat.mod_eq_of_lt ((Nat.div_le_self ..).trans_lt a.isLt), Nat.mod_eq_of_lt ((Nat.mod_le ..).trans_lt a.isLt)⟩

end

/-! ### The laws of truncated division (R238) -/

section
variable {a b : Int}

theorem abs_tmod_lt_abs (hb : b ≠ 0) : |a.tmod b| < |b| := by
  have := Nat.mod_lt a.natAbs (Int.natAbs_pos.mpr hb)
  rw [Int.abs_eq_natAbs, Int.abs_eq_natAbs, Int.natAbs_tmod]
  exact_mod_cast this

theorem tmod_eq_zero_or_sign_eq : a.tmod b = 0 ∨ (a.tmod b).sign = a.sign := by
  rw [Int.sign_tmod]
  by_cases h : b ∣ a
  · exact .inl (Int.tmod_eq_zero_of_dvd h)
  · exact .inr (if_neg h)

theorem tdiv_nonpos_of_nonpos_of_nonneg (ha : a ≤ 0) (hb : 0 ≤ b) : a.tdiv b ≤ 0 := by
  have := Int.tdiv_nonneg (Int.neg_nonneg.mpr ha) hb
  rw [Int.neg_tdiv] at this
  omega

theorem tmod_nonpos (ha : a ≤ 0) : a.tmod b ≤ 0 := by
  have := Int.tmod_nonneg b (Int.neg_nonneg.mpr ha)
  rw [Int.neg_tmod] at this
  omega

end

/-! ### The obligations -/

/-- Settles O8: each row writes HI, LO or a register, here with the value of its rule. -/
theorem multiplyAndDivide : Obligations.MultiplyAndDivide := by
  refine ⟨encodes_special 0x18#6,
    encodes_special 0x19#6,
    encodes_special 0x1A#6,
    encodes_special 0x1B#6,
    encodes_special 0x10#6,
    encodes_special 0x11#6,
    encodes_special 0x12#6,
    encodes_special 0x13#6,
    fun s rs rt => (completes_writeHiLo rfl).imp ?mult,
    fun s rs rt => (completes_writeHiLo rfl).imp ?multu,
    fun s rs rt => (completes_writeHiLo rfl).imp ?div,
    fun s rs rt => (completes_writeHiLo rfl).imp ?divu,
    fun _ _ => writesX_of rfl,
    fun s _ => completes_of rfl (edits_setHi s _) (sequence_hi ..),
    fun _ _ => writesX_of rfl,
    fun s _ => completes_of rfl (edits_setLo s _) (sequence_lo ..)⟩
  all_goals rintro t ⟨hi, lo⟩; rw [hi, lo]
  case mult => exact (congrArg BitVec.toInt (append_halves _)).trans (toInt_product ..)
  case multu => exact (congrArg BitVec.toNat (append_halves _)).trans (toNat_product ..)
  case div =>
    refine ⟨fun zero => ?_, fun ha hb => ?_, toInt_divSigned⟩
    · rw [divSigned_of_zero zero]; exact ⟨rfl, rfl⟩
    · rw [divSigned_of_overflow ha hb]; exact ⟨rfl, rfl⟩
  case divu =>
    refine ⟨fun zero => ?_, toNat_divUnsigned⟩
    rw [divUnsigned_of_zero zero]; exact ⟨rfl, rfl⟩

/-- Settles O9 from the rules of DIV and DIVU in O8: every row but the last two is a law of truncated division. -/
theorem divisionTable : Obligations.DivisionTable := by
  obtain ⟨-, -, -, -, -, -, -, -, -, -, div, divu, -⟩ := multiplyAndDivide
  constructor
  · intro s rs rt
    obtain ⟨t, next, byZero, overflow, truncated⟩ := (div s rs rt).next
    refine ⟨t, next, fun hb h => ?law, fun ha hb => ?pos_pos, fun ha hb => ?pos_neg, fun ha hb => ?neg_pos,
      fun ha hb h => ?neg_neg, byZero, overflow⟩
    all_goals
      obtain ⟨hq, hr⟩ := truncated (by omega) (by omega)
      rw [hq, hr]
    case law => exact ⟨(Int.mul_tdiv_add_tmod ..).symm, abs_tmod_lt_abs hb, tmod_eq_zero_or_sign_eq⟩
    case pos_pos => exact ⟨Int.tdiv_nonneg ha hb.le, Int.tmod_nonneg _ ha⟩
    case pos_neg => exact ⟨Int.tdiv_nonpos_of_nonneg_of_nonpos ha hb.le, Int.tmod_nonneg _ ha⟩
    case neg_pos => exact ⟨tdiv_nonpos_of_nonpos_of_nonneg ha.le hb.le, tmod_nonpos ha.le⟩
    case neg_neg => exact ⟨Int.tdiv_nonneg_of_nonpos_of_nonpos ha.le hb.le, tmod_nonpos ha.le⟩
  · intro s rs rt
    obtain ⟨t, next, -, truncated⟩ := (divu s rs rt).next
    refine ⟨t, next, fun hb => ?_⟩
    obtain ⟨hq, hr⟩ := truncated hb
    rw [hq, hr]
    exact ⟨(Nat.div_add_mod ..).symm, Nat.mod_lt _ (Nat.pos_of_ne_zero hb)⟩

end Sys2Proof.Machine
end

section
/-! SUPPORT. The family 43_branch: the rows of REGIMM by their fixed bits, how a jump and a branch end outside a delay
slot, and the conditions as comparisons. -/

namespace Sys2Proof.Machine

/-- A row of REGIMM, which fixes `rt` (30_encoding.md R116); the map is read at the row named. -/
theorem encodes_regimm (c : BitVec 5) {i : Word → Instr}
    (row : ∀ w, rtBits w = c → decodeRegimm w = .ok (i w) := by intro w h; rw [decodeRegimm, h]; rfl) :
    Encodes (encodeR 0x01#6 0#5 c 0#5 0#5 0#6) 0xFC1F0000#32 i := by
  intro w hw
  have opcode : opcodeOf w = 0x01#6 := (extract_of_mask hw 26 6 rfl).trans (opcodeOf_encodeR ..)
  have rt : rtBits w = c := (extract_of_mask hw 16 5 rfl).trans (rtBits_encodeR ..)
  exact (decode_regimm opcode).trans (row w rt)

/-! ### The conditions (43_branch.md R256 to R271) -/

section
variable {v : Word}

theorem isNegative_iff : isNegative v = true ↔ v.toInt < 0 := decide_eq_true_iff

theorem not_isNegative_iff : (!isNegative v) = true ↔ 0 ≤ v.toInt := by
  rw [isNegative, Bool.not_eq_true', decide_eq_false_iff_not, Int.not_lt]

theorem isNonPositive_iff : isNonPositive v = true ↔ v.toInt ≤ 0 := decide_eq_true_iff

theorem not_isNonPositive_iff : (!isNonPositive v) = true ↔ 0 < v.toInt := by
  rw [isNonPositive, Bool.not_eq_true', decide_eq_false_iff_not, Int.not_le]

end

/-! ### The link (R251) -/

/-- The register written before the cycle ends; a write of `x[0]` is discarded. -/
theorem sequence_setX_x (out : Out) (s : State) (d : Reg) (v : Word) :
    (sequence out (s.setX d v).count).x d = if d = 0 then 0#32 else v := by
  rw [sequence_x, State.count_x, State.setX_x]
  by_cases h : d = 0 <;> simp [h]

theorem sequence_link_x (out : Out) (s : State) : (sequence out s.link.count).x 31 = s.cpu.pc + 8#32 :=
  sequence_setX_x out s regRA (linkValue s)

/-! ### How a jump and a branch end outside a delay slot (40_controller.md R147 to R149) -/

/-- A branch of the model, likely or not. -/
def branch (likely c : Bool) (target : Word) (u : State) : Result :=
  if likely then branchLikelyIf c target u else branchIf c target u

section
variable {i : Instr} {s u : State} {parts : List Part} {result : State → Prop} {target : Word}

/-- `branch_to(target)`: the slot is next, with the target pending. -/
theorem transfers_of_branchTo (hd : s.cpu.delay = .none) (he : exec i s = controlTransfer s (branchTo target u))
    (h : Edits parts s u) (hr : result (sequence (.taken target) u.count)) :
    Transfers i s (s.cpu.pc + 4#32) (.taken target) parts result :=
  transfers_of hd (he.trans (if_pos hd)) h (congrArg (· + 4#32) h.pc) rfl hr

/-- `transfers_of_branchTo`, for a jump that writes `pc + 8` to a register. -/
theorem transfers_of_jumpAndLink {d : Reg} (hd : s.cpu.delay = .none)
    (he : exec i s = controlTransfer s (branchTo target (s.setX d (linkValue s)))) :
    Transfers i s (s.cpu.pc + 4#32) (.taken target) [.gpr d]
      (fun t => t.x d = if d = 0 then 0#32 else s.cpu.pc + 8#32) :=
  transfers_of_branchTo hd he (edits_setX s d _) (sequence_setX_x ..)

variable {likely c : Bool} {p : Prop} {offset : BitVec 16}

theorem branch_true : branch likely true target u = branchTo target u := by cases likely <;> rfl

theorem branch_false : branch likely false target u = finish (if likely then .annul else .notTaken) u := by
  cases likely <;> rfl

/-- A branch to a PC-relative target, after the writes that lead from `s` to `u`. -/
theorem branches_of (hd : s.cpu.delay = .none) (hc : c = true ↔ p)
    (he : exec i s = controlTransfer s (branch likely c (branchTarget s offset) u)) (h : Edits parts s u)
    (hr : ∀ out, result (sequence out u.count)) : Branches p likely i s (targetAt s offset) parts result := by
  refine ⟨fun taken => ?_, fun notTaken => ?_⟩
  · rw [hc.mpr taken, branch_true, branchTarget_eq] at he
    exact transfers_of_branchTo hd he h (hr _)
  · rw [Bool.eq_false_iff.mpr (mt hc.mp notTaken), branch_false] at he
    have ends := he.trans (if_pos hd)
    cases likely with
    | true => exact transfers_of hd ends h (congrArg (· + 8#32) h.pc) rfl (hr _)
    | false => exact transfers_of hd ends h (congrArg (· + 4#32) h.pc) rfl (hr _)

/-- A branch that writes nothing. -/
theorem branches_of_plain (hd : s.cpu.delay = .none) (hc : c = true ↔ p)
    (he : exec i s = controlTransfer s (branch likely c (branchTarget s offset) s)) :
    Branches p likely i s (targetAt s offset) [] (fun _ => True) :=
  branches_of hd hc he (Edits.refl [] s) fun _ => trivial

/-- A branch that links, taken or not. -/
theorem branches_of_link (hd : s.cpu.delay = .none) (hc : c = true ↔ p)
    (he : exec i s = controlTransfer s (branch likely c (branchTarget s offset) s.link)) :
    Branches p likely i s (targetAt s offset) [.gpr 31] (fun t => t.x 31 = s.cpu.pc + 8#32) :=
  branches_of hd hc he (edits_setX s regRA _) fun out => sequence_link_x out s

end

/-! ### The obligations -/

/-- Settles O10: each row ends in `branch_to` or, after its link, in a branch on the sign of `x[rs]`. -/
theorem jumpsAndLinks : Obligations.JumpsAndLinks :=
  ⟨encodes_primary 0x02#6,
    encodes_primary 0x03#6,
    encodes_special 0x08#6,
    encodes_special 0x09#6,
    fun s _ hd => transfers_of_branchTo hd rfl (Edits.refl [] s) trivial,
    fun _ _ hd => transfers_of_jumpAndLink hd rfl,
    fun s _ hd => transfers_of_branchTo hd rfl (Edits.refl [] s) trivial,
    fun _ _ _ hd => transfers_of_jumpAndLink hd rfl,
    encodes_regimm 0x10#5,
    encodes_regimm 0x11#5,
    encodes_regimm 0x12#5,
    encodes_regimm 0x13#5,
    fun _ _ _ hd => branches_of_link hd isNegative_iff rfl,
    fun _ _ _ hd => branches_of_link hd not_isNegative_iff rfl,
    fun _ _ _ hd => branches_of_link hd isNegative_iff rfl,
    fun _ _ _ hd => branches_of_link hd not_isNegative_iff rfl⟩

/-- Settles O11: each row ends in a branch on the equality or the sign of its registers. -/
theorem conditionalBranches : Obligations.ConditionalBranches :=
  ⟨encodes_primary 0x04#6,
    encodes_primary 0x05#6,
    encodes_primary 0x06#6,
    encodes_primary 0x07#6,
    encodes_regimm 0x00#5,
    encodes_regimm 0x01#5,
    encodes_primary 0x14#6,
    encodes_primary 0x15#6,
    encodes_primary 0x16#6,
    encodes_primary 0x17#6,
    encodes_regimm 0x02#5,
    encodes_regimm 0x03#5,
    fun _ _ _ _ hd => branches_of_plain hd beq_iff_eq rfl,
    fun _ _ _ _ hd => branches_of_plain hd bne_iff_ne rfl,
    fun _ _ _ hd => branches_of_plain hd isNonPositive_iff rfl,
    fun _ _ _ hd => branches_of_plain hd not_isNonPositive_iff rfl,
    fun _ _ _ hd => branches_of_plain hd isNegative_iff rfl,
    fun _ _ _ hd => branches_of_plain hd not_isNegative_iff rfl,
    fun _ _ _ _ hd => branches_of_plain hd beq_iff_eq rfl,
    fun _ _ _ _ hd => branches_of_plain hd bne_iff_ne rfl,
    fun _ _ _ hd => branches_of_plain hd isNonPositive_iff rfl,
    fun _ _ _ hd => branches_of_plain hd not_isNonPositive_iff rfl,
    fun _ _ _ hd => branches_of_plain hd isNegative_iff rfl,
    fun _ _ _ hd => branches_of_plain hd not_isNegative_iff rfl⟩

end Sys2Proof.Machine
end

section
/-! SUPPORT. The family 44_loadstore: loads and stores at the address of their rule, the bytes that the partial-word
instructions move, the pairs that move an unaligned word, and the reservation. -/

namespace Sys2Proof.Machine

/-! ### The address of a load or store (R280) -/

section
variable {i : Instr} {s t : State} {rt base : Reg} {offset : BitVec 16}

/-- `loadsX_of`, for a load from the effective address. -/
theorem loadsX_at {w n : Nat} {f : BitVec w → Word} (hw : w = 8 * n)
    (he : exec i s = loadInto rt (effectiveAddress s base offset) w n f s) :
    LoadsX i s rt (addressAt s base offset) w n [] f (fun _ => True) := by
  rw [effectiveAddress_eq] at he
  exact loadsX_of hw he

/-- `storesAt_beBytes`, for a store of low bytes of `x[rt]` at the effective address. -/
theorem storesAt_at (hm : MemoryOk s) {n : Nat}
    (he : exec i s = storeBytes (effectiveAddress s base offset) (beBytes (s.x rt) n) s) :
    StoresAt i s (addressAt s base offset) n (s.x rt) [] (fun _ => True) := by
  rw [effectiveAddress_eq] at he
  exact storesAt_beBytes hm _ _ n he

theorem LoadsX.congr {d : Reg} {va : Word} {w n : Nat} {parts : List Part} {f g : BitVec w → Word}
    {result : State → Prop} (h : LoadsX i s d va w n parts f result) (hfg : ∀ v, f v = g v) :
    LoadsX i s d va w n parts g result := funext hfg ▸ h

/-- The state that a load leaves. -/
theorem LoadsX.of_next {d : Reg} {va : Word} {w n : Nat} {parts : List Part} {f : BitVec w → Word}
    {result : State → Prop} (h : LoadsX i s d va w n parts f result) (ht : exec i s = .next t) :
    ∃ read, s.mem.Holds va n read ∧ OnlyChanges ([.gpr d, .memReads] ++ parts) s t ∧
      t.x d = if d = 0 then 0#32 else f read := by
  obtain ⟨read, holds, t', ht', -, -, only, x, -⟩ := h
  obtain rfl : t' = t := Host.Outcome.next.inj (ht'.symm.trans ht)
  exact ⟨read, holds, only, x⟩

/-- The state that a store leaves. -/
theorem StoresAt.of_next {va : Word} {w n : Nat} {v : BitVec w} {parts : List Part} {result : State → Prop}
    (h : StoresAt i s va n v parts result) (ht : exec i s = .next t) :
    OnlyChanges ([.bytes, .memWrites] ++ parts) s t ∧ s.mem.Stored va n v t.mem := by
  obtain ⟨t', ht', -, -, only, stored, -⟩ := h
  obtain rfl : t' = t := Host.Outcome.next.inj (ht'.symm.trans ht)
  exact ⟨only, stored⟩

theorem addressAt_congr (h : t.x base = s.x base) : addressAt t base offset = addressAt s base offset := by
  rw [addressAt, h, addressAt]

/-- Every instruction keeps the canonical form of DRAM and SRAM. -/
theorem MemoryOk.of_exec (h : MemoryOk s) (ht : exec i s = .next t) : MemoryOk t := by
  have effect := (exec_cycleEffect ht).mem
  unfold MemoryOk
  generalize t.mem = m at effect ⊢
  cases effect with
  | none => exact h
  | read => exact h
  | write va bs => exact MemSys.writeBytes_wf va bs h

end

/-! ### Partial words as numbers (R292, R293) -/

section
variable {k : Nat} (m r : Word)

theorem mergeLeft_eq_ofNat (hk : k < 4) :
    mergeLeft k m r = BitVec.ofNat 32 (m.toNat % 2 ^ (32 - 8 * k) * 2 ^ (8 * k) + r.toNat % 2 ^ (8 * k)) := by
  refine BitVec.eq_of_getLsbD_eq fun i hi => ?_
  rw [getLsbD_mergeLeft k m r i hk hi, BitVec.getLsbD_ofNat, Nat.mul_comm (m.toNat % _),
    Nat.testBit_two_pow_mul_add _ (Nat.mod_lt _ (Nat.two_pow_pos _))]
  by_cases h : i < 8 * k
  · simp only [h, hi, if_true, decide_true, Bool.true_and, Nat.testBit_mod_two_pow, BitVec.testBit_toNat]
  · simp only [h, hi, if_false, decide_true, Bool.true_and, Nat.testBit_mod_two_pow, BitVec.testBit_toNat,
      show i - 8 * k < 32 - 8 * k by omega]

theorem mergeRight_eq_ofNat (hk : k < 4) :
    mergeRight k m r =
      BitVec.ofNat 32 (r.toNat / 2 ^ (8 * k + 8) * 2 ^ (8 * k + 8) + m.toNat / 2 ^ (24 - 8 * k)) := by
  have low : m.toNat / 2 ^ (24 - 8 * k) < 2 ^ (8 * k + 8) := by
    rw [Nat.div_lt_iff_lt_mul (Nat.two_pow_pos _), ← Nat.pow_add, show 8 * k + 8 + (24 - 8 * k) = 32 by omega]
    exact m.isLt
  refine BitVec.eq_of_getLsbD_eq fun i hi => ?_
  rw [getLsbD_mergeRight k m r i hk hi, BitVec.getLsbD_ofNat, Nat.mul_comm (r.toNat / _),
    Nat.testBit_two_pow_mul_add _ low]
  by_cases h : i < 8 * k + 8
  · simp only [h, hi, if_true, decide_true, Bool.true_and, Nat.testBit_div_two_pow, BitVec.testBit_toNat]
  · simp only [h, hi, if_false, decide_true, Bool.true_and, Nat.testBit_div_two_pow, BitVec.testBit_toNat,
      Nat.sub_add_cancel (Nat.le_of_not_lt h)]

end

/-! ### Partial words as byte lanes -/

section
variable {k : Nat} (m r : Word)

/-- LWL fills the high lanes of the register, and the lane of the effective address comes first. -/
theorem byteLane_mergeLeft (hk : k < 4) {j : Nat} (hj : j < 4) :
    byteLane (mergeLeft k m r) j = if j + k < 4 then byteLane m (j + k) else byteLane r j := by
  refine BitVec.eq_of_getLsbD_eq fun i hi => ?_
  rw [byteLane, BitVec.getLsbD_extractLsb', getLsbD_mergeLeft k m r _ hk (by omega)]
  by_cases h : j + k < 4
  · rw [if_pos h, if_neg (by omega), byteLane, BitVec.getLsbD_extractLsb']
    congr 2; omega
  · rw [if_neg h, if_pos (by omega), byteLane, BitVec.getLsbD_extractLsb']

/-- LWR fills the low lanes of the register, and the lane of the effective address comes last. -/
theorem byteLane_mergeRight (hk : k < 4) {j : Nat} (hj : j < 4) :
    byteLane (mergeRight k m r) j = if 3 ≤ j + k then byteLane m (j + k - 3) else byteLane r j := by
  refine BitVec.eq_of_getLsbD_eq fun i hi => ?_
  rw [byteLane, BitVec.getLsbD_extractLsb', getLsbD_mergeRight k m r _ hk (by omega)]
  by_cases h : 3 ≤ j + k
  · rw [if_pos h, if_pos (by omega), byteLane, BitVec.getLsbD_extractLsb']
    congr 2; omega
  · rw [if_neg h, if_neg (by omega), byteLane, BitVec.getLsbD_extractLsb']

end

theorem length_leftBytes (k : Nat) (r : Word) : (leftBytes k r).length = 4 - k := by
  rw [leftBytes, List.length_take, length_beBytes]
  exact Nat.min_eq_left (Nat.sub_le ..)

theorem getElem_leftBytes {k j : Nat} {r : Word} (h : j < (leftBytes k r).length) :
    (leftBytes k r)[j] = r.extractLsb' (8 * (3 - j)) 8 := by
  simp only [leftBytes, List.getElem_take, getElem_beBytes]

theorem length_rightBytes {k : Nat} (hk : k < 4) (r : Word) : (rightBytes k r).length = k + 1 := by
  rw [rightBytes, List.length_drop, length_beBytes]
  omega

theorem getElem_rightBytes {k j : Nat} {r : Word} (hk : k < 4) (h : j < (rightBytes k r).length) :
    (rightBytes k r)[j] = r.extractLsb' (8 * (k - j)) 8 := by
  simp only [rightBytes, List.getElem_drop, getElem_beBytes]
  congr 1; omega

theorem extractLsb'_ushiftRight {w : Nat} (v : BitVec w) (n start len : Nat) :
    (v >>> n).extractLsb' start len = v.extractLsb' (n + start) len := by
  refine BitVec.eq_of_getLsbD_eq fun i hi => ?_
  rw [BitVec.getLsbD_extractLsb', BitVec.getLsbD_ushiftRight, BitVec.getLsbD_extractLsb', Nat.add_assoc]

theorem laneOf_lt (ea : Word) : laneOf ea < 4 := Nat.mod_lt _ (by decide)

/-- The bytes of a word in memory are its lanes. -/
theorem MemSys.holds_word_iff (m : MemSys) (va v : Word) :
    m.Holds va 4 v ↔ ∀ j < 4, m.byteRead (va + BitVec.ofNat 32 j) = byteLane v j := by
  refine forall₂_congr fun j _ => ?_
  rw [byteLane, show 8 * (4 - 1 - j) = 24 - 8 * j by omega]

/-- Lane `j + k` of the aligned word is `j` bytes after the effective address. -/
theorem alignedWord_add (ea : Word) (j : Nat) :
    alignedWord ea + BitVec.ofNat 32 (j + laneOf ea) = ea + BitVec.ofNat 32 j := by
  rw [alignedWord, BitVec.ofNat_add, BitVec.add_comm (BitVec.ofNat 32 j), ← BitVec.add_assoc, BitVec.sub_add_cancel]

/-- Lane `k` of the aligned word of `ea + 3`, counted from `ea`. -/
theorem alignedWord_add_three (ea : Word) (k : Nat) :
    alignedWord (ea + 3#32) + BitVec.ofNat 32 k = ea + BitVec.ofNat 32 (3 - laneOf (ea + 3#32) + k) := by
  have lane := laneOf_lt (ea + 3#32)
  apply (BitVec.add_left_inj 3#32).mp
  rw [BitVec.add_assoc, ← BitVec.ofNat_add,
    show k + 3 = 3 - laneOf (ea + 3#32) + k + laneOf (ea + 3#32) by omega, alignedWord_add, add_right_comm]

/-- The lanes that LWR at `ea + 3` keeps are lanes that LWL at `ea` fills. -/
theorem laneOf_add_three (ea : Word) {j : Nat} (hj : j + laneOf (ea + 3#32) < 3) : j + laneOf ea < 4 := by
  simp only [laneOf] at *
  bv_omega

/-! ### LWL and LWR, SWL and SWR -/

section
variable (s : State) (rt base : Reg) (offset : BitVec 16)

theorem loadsX_lwl :
    LoadsX (.lwl rt base offset) s rt (alignedWord (addressAt s base offset)) 32 4 []
      (fun m => mergeLeft (laneOf (addressAt s base offset)) m (s.x rt)) (fun _ => True) := by
  rw [← effectiveAddress_eq]
  exact loadsX_of rfl rfl

theorem loadsX_lwr :
    LoadsX (.lwr rt base offset) s rt (alignedWord (addressAt s base offset)) 32 4 []
      (fun m => mergeRight (laneOf (addressAt s base offset)) m (s.x rt)) (fun _ => True) := by
  rw [← effectiveAddress_eq]
  exact loadsX_of rfl rfl

/-- SWL stores what the `4 - k` low bytes of the shifted register are (R290). -/
theorem storesAt_swl (hm : MemoryOk s) :
    StoresAt (.swl rt base offset) s (addressAt s base offset) (4 - laneOf (addressAt s base offset))
      (s.x rt >>> (8 * laneOf (addressAt s base offset))) [] (fun _ => True) := by
  rw [← effectiveAddress_eq]
  refine storesAt_of hm rfl (length_leftBytes ..) fun j hj => ?_
  rw [getElem_leftBytes, extractLsb'_ushiftRight]
  rw [length_leftBytes] at hj
  congr 1; omega

/-- SWR stores the `k + 1` low bytes of the register (R291). -/
theorem storesAt_swr (hm : MemoryOk s) :
    StoresAt (.swr rt base offset) s (alignedWord (addressAt s base offset)) (laneOf (addressAt s base offset) + 1)
      (s.x rt) [] (fun _ => True) := by
  rw [← effectiveAddress_eq]
  exact storesAt_of hm rfl (length_rightBytes (laneOf_lt _) _) fun j hj => getElem_rightBytes (laneOf_lt _) hj

end

/-! ### LL and SC (R294, R295) -/

/-- The law of several bytes, for a counted write. -/
theorem stored_memWrite {s : State} (hm : MemoryOk s) {w : Nat} (va : Word) (v : BitVec w) (n : Nat) :
    s.mem.Stored va n v (s.memWrite va (beBytes v n)).mem := by
  obtain ⟨hit, miss, readOnly⟩ := MemSys.stored_writeBytes hm va n v (beBytes v n) (length_beBytes v n)
    (getElem_beBytes v n)
  exact ⟨hit, miss, readOnly⟩

section
variable {s : State} (rt base : Reg) (offset : BitVec 16)

/-- LL is a load that also sets `llbit` (R294). -/
theorem loadsX_ll :
    LoadsX (.ll rt base offset) s rt (addressAt s base offset) 32 4 [.llbit] (fun v => v)
      (fun t => t.cpu.llbit = true) := by
  rw [← effectiveAddress_eq]
  refine ⟨s.memValue 32 4 _, s.holds_memValue 32 4 rfl _, completes_of rfl
    ((((edits_setLL s true).trans (edits_countRead _)).trans (edits_setX _ rt _)).mono (by simp))
    ⟨sequence_setX_x .., ?_, (sequence_llbit ..).trans (State.setX_llbit ..)⟩⟩
  rw [sequence_mem, State.count_mem, State.setX_mem, State.countRead_memReads, State.setLL_mem]

theorem exec_sc_of_llbit (h : s.cpu.llbit = true) :
    exec (.sc rt base offset) s =
      writeGpr rt 1#32 ((s.memWrite (addressAt s base offset) (beBytes (s.x rt) 4)).setLL false) := by
  rw [← effectiveAddress_eq]
  exact if_pos h

theorem exec_sc_of_not_llbit (h : s.cpu.llbit = false) :
    exec (.sc rt base offset) s = writeGpr rt 0#32 (s.setLL false) := if_neg (Bool.eq_false_iff.mp h)

theorem storesAt_sc (hm : MemoryOk s) (h : s.cpu.llbit = true) :
    StoresAt (.sc rt base offset) s (addressAt s base offset) 4 (s.x rt) [.gpr rt, .llbit]
      (fun t => t.x rt = (if rt = 0 then 0#32 else 1#32) ∧ t.cpu.llbit = false) := by
  have edits := ((edits_memWrite s (addressAt s base offset) (beBytes (s.x rt) 4)).trans (edits_setLL _ false)).trans
    (edits_setX _ rt 1#32)
  refine completes_of (exec_sc_of_llbit rt base offset h) (edits.mono (by simp)) ?_
  rw [sequence_mem, State.count_mem, State.setX_mem, State.setLL_mem]
  exact ⟨stored_memWrite hm .., rfl, sequence_setX_x .., (sequence_llbit ..).trans (State.setX_llbit ..)⟩

theorem completes_failed_sc (h : s.cpu.llbit = false) :
    Completes (.sc rt base offset) s [.gpr rt, .llbit] (fun t => t.x rt = 0#32 ∧ t.cpu.llbit = false) := by
  refine completes_of (exec_sc_of_not_llbit rt base offset h)
    (((edits_setLL s false).trans (edits_setX _ rt 0#32)).mono (by simp)) ?_
  exact ⟨(sequence_setX_x ..).trans (ite_self _), (sequence_llbit ..).trans (State.setX_llbit ..)⟩

end

theorem doesNothing_of {i : Instr} {s : State} (he : exec i s = complete s) : DoesNothing i s :=
  completes_of he (Edits.refl [] s) trivial

/-! ### Bytes that take writes -/

/-- A part of distinct bytes that take writes. -/
theorem MemSys.Plain.part {m : MemSys} {va vb : Word} {n l start : Nat} (h : m.Plain va n) (hl : start + l ≤ n)
    (hb : ∀ k, vb + BitVec.ofNat 32 k = va + BitVec.ofNat 32 (start + k)) : m.Plain vb l := by
  intro k hk
  obtain ⟨writable, distinct⟩ := h (start + k) (by omega)
  simp only [hb]
  exact ⟨writable, fun j hj hjk => distinct (start + j) (by omega) (by omega)⟩

/-- A store to a part of distinct bytes keeps the others. -/
theorem MemSys.Stored.kept {w : Nat} {m m' : MemSys} {va vb : Word} {n l start : Nat} {v : BitVec w}
    (h : m.Stored vb l v m') (plain : m.Plain va n) (hl : start + l ≤ n)
    (hb : ∀ k, vb + BitVec.ofNat 32 k = va + BitVec.ofNat 32 (start + k)) {j : Nat} (hj : j < start) :
    m'.byteRead (va + BitVec.ofNat 32 j) = m.byteRead (va + BitVec.ofNat 32 j) := by
  refine h.miss _ fun k hk => ?_
  rw [hb]
  exact (plain (start + k) (by omega)).2 j (by omega) (by omega)

/-! ### The obligations -/

/-- Settles O13: each row is a load; the merged words are written as the numbers of their rules. -/
theorem loads : Obligations.Loads := by
  refine ⟨encodes_primary 0x20#6,
    encodes_primary 0x24#6,
    encodes_primary 0x21#6,
    encodes_primary 0x25#6,
    encodes_primary 0x23#6,
    fun _ _ _ _ => loadsX_at rfl rfl,
    fun _ _ _ _ => (loadsX_at (n := 1) rfl rfl).congr fun v => (BitVec.ofNat_toNat 32 v).symm,
    fun _ _ _ _ => loadsX_at rfl rfl,
    fun _ _ _ _ => (loadsX_at (n := 2) rfl rfl).congr fun v => (BitVec.ofNat_toNat 32 v).symm,
    fun _ _ _ _ => loadsX_at rfl rfl,
    encodes_primary 0x22#6,
    encodes_primary 0x26#6,
    fun s rt base offset k hk => ?lwl,
    fun s rt base offset k hk => ?lwr⟩
  all_goals subst hk
  case lwl => exact (loadsX_lwl s rt base offset).congr fun m => mergeLeft_eq_ofNat m _ (laneOf_lt _)
  case lwr => exact (loadsX_lwr s rt base offset).congr fun m => mergeRight_eq_ofNat m _ (laneOf_lt _)

/-- Settles O14: each row is a store. -/
theorem stores : Obligations.Stores := by
  refine ⟨encodes_primary 0x28#6,
    encodes_primary 0x29#6,
    encodes_primary 0x2B#6,
    encodes_primary 0x2A#6,
    encodes_primary 0x2E#6,
    fun _ _ _ _ hm => storesAt_at hm rfl,
    fun _ _ _ _ hm => storesAt_at hm rfl,
    fun _ _ _ _ hm => storesAt_at hm rfl,
    fun s rt base offset hm k hk => ?swl,
    fun s rt base offset hm k hk => ?swr⟩
  all_goals subst hk
  case swl => exact storesAt_swl s rt base offset hm
  case swr => exact storesAt_swr s rt base offset hm

/-- LWL at `a` and LWR at `a + 3` fill the four lanes of the register with the bytes from `a` on (R289). -/
theorem lwl_lwr_loads_word {s t : State} {rt base : Reg} {a b : BitVec 16} (h0 : rt ≠ 0) (hbase : rt ≠ base)
    (hab : addressAt s base b = addressAt s base a + 3#32) (ht : exec (.lwl rt base a) s = .next t) :
    ∃ u, exec (.lwr rt base b) t = .next u ∧ s.mem.Holds (addressAt s base a) 4 (u.x rt) := by
  obtain ⟨left, holdsLeft, only, x⟩ := (loadsX_lwl s rt base a).of_next ht
  obtain ⟨right, holdsRight, u, hu, -, -, -, y, -⟩ := loadsX_lwr t rt base b
  have address : addressAt t base b = addressAt s base a + 3#32 :=
    (addressAt_congr (only.gpr base (by simp [hbase.symm]))).trans hab
  refine ⟨u, hu, (MemSys.holds_word_iff ..).mpr fun j hj => ?_⟩
  rw [MemSys.holds_word_iff] at holdsLeft holdsRight
  rw [address] at holdsRight y
  generalize addressAt s base a = ea at *
  rw [y, if_neg h0, x, if_neg h0, byteLane_mergeRight _ _ (laneOf_lt _) hj]
  have lane := laneOf_lt (ea + 3#32)
  by_cases h : 3 ≤ j + laneOf (ea + 3#32)
  · rw [if_pos h, ← holdsRight _ (by omega), only.bytes (by simp), alignedWord_add_three]
    congr 3; omega
  · have filled := laneOf_add_three ea (Nat.lt_of_not_le h)
    rw [if_neg h, byteLane_mergeLeft _ _ (laneOf_lt _) hj, if_pos filled, ← holdsLeft _ filled, alignedWord_add]

/-- SWL at `a` stores the high bytes, and SWR at `a + 3` the low bytes, of the word at `a` (R289). -/
theorem swl_swr_stores_word {s t : State} {rt base : Reg} {a b : BitVec 16} (hm : MemoryOk s)
    (hab : addressAt s base b = addressAt s base a + 3#32) (plain : s.mem.Plain (addressAt s base a) 4)
    (ht : exec (.swl rt base a) s = .next t) :
    ∃ u, exec (.swr rt base b) t = .next u ∧ u.mem.Holds (addressAt s base a) 4 (s.x rt) := by
  obtain ⟨only, stored⟩ := (storesAt_swl s rt base a hm).of_next ht
  obtain ⟨u, hu, -, -, -, stored', -⟩ := storesAt_swr t rt base b (hm.of_exec ht)
  have address : addressAt t base b = addressAt s base a + 3#32 :=
    (addressAt_congr (only.gpr base (by simp))).trans hab
  refine ⟨u, hu, fun j hj => ?_⟩
  rw [address, only.gpr rt (by simp)] at stored'
  have plain' : t.mem.Plain (addressAt s base a) 4 := by
    obtain ⟨-, -, maps, -⟩ := only.memory
    rw [MemSys.Plain, MemSys.placeOf_congr maps]
    exact plain
  generalize addressAt s base a = ea at *
  have lane := laneOf_lt (ea + 3#32)
  by_cases h : j < 3 - laneOf (ea + 3#32)
  · have high := laneOf_add_three ea (j := j) (by omega)
    rw [stored'.kept plain' (by omega) (alignedWord_add_three ea) h,
      stored.holds (plain.part (start := 0) (by omega) fun k => by rw [Nat.zero_add]) j (by omega),
      extractLsb'_ushiftRight]
    congr 1; omega
  · obtain ⟨k, rfl⟩ := Nat.exists_eq_add_of_le (Nat.le_of_not_lt h)
    rw [← alignedWord_add_three, stored'.holds (plain'.part (by omega) (alignedWord_add_three ea)) k (by omega)]
    congr 1; omega

/-- Settles O15, by `lwl_lwr_loads_word` and `swl_swr_stores_word`. -/
theorem unalignedPairs : Obligations.UnalignedPairs := by
  refine ⟨fun s t rt base a b h0 hbase hab ht => ?_, fun s t rt base a b => swl_swr_stores_word⟩
  obtain ⟨u, hu, holds⟩ := lwl_lwr_loads_word h0 hbase hab ht
  exact ⟨u, u.x rt, hu, rfl, holds⟩

/-- Settles O16: LL is a load, SC by `llbit`, and the two that are no-ops. -/
theorem linkedAndOrdering : Obligations.LinkedAndOrdering :=
  ⟨encodes_primary 0x30#6,
    encodes_primary 0x38#6,
    fun _ rt base offset => loadsX_ll rt base offset,
    fun _ rt base offset => storesAt_sc rt base offset,
    fun _ rt base offset => completes_failed_sc rt base offset,
    encodes_special 0x0F#6,
    encodes_primary 0x2F#6,
    fun _ _ => doesNothing_of rfl,
    fun _ _ _ _ => doesNothing_of rfl⟩

end Sys2Proof.Machine
end

section
/-! SUPPORT. The family 45_system: the words that are no instruction, the rows of COP0 and COP1 by their fixed bits, the
instructions that only raise, the conditional traps, and the return from an exception. -/

namespace Sys2Proof.Machine

/-! ### Words that no map assigns (30_encoding.md R114 to R118, R120) -/

section
variable {w : Word}

theorem decodeSpecial_reserved (h : functOf w ∈ [0x01#6, 0x05#6, 0x0A#6, 0x0B#6, 0x0E#6, 0x15#6, 0x28#6, 0x29#6, 0x35#6,
    0x37#6, 0x39#6, 0x3D#6]) : decodeSpecial w = .error .reservedInstruction := by
  unfold decodeSpecial
  split
  case h_53 => rfl
  all_goals exact absurd h (by rw [‹functOf w = _›]; decide)

theorem decodeRegimm_reserved (h : rtBits w ∈ [0x04#5, 0x05#5, 0x06#5, 0x07#5, 0x0D#5, 0x0F#5, 0x14#5, 0x15#5, 0x16#5,
    0x17#5, 0x18#5, 0x19#5, 0x1A#5, 0x1B#5, 0x1C#5, 0x1D#5, 0x1E#5, 0x1F#5]) :
    decodeRegimm w = .error .reservedInstruction := by
  unfold decodeRegimm
  split
  case h_15 => rfl
  all_goals exact absurd h (by rw [‹rtBits w = _›]; decide)

theorem decodeCop0Rs_reserved (h : rsBits w ∉ [0#5, 1#5, 4#5, 5#5]) :
    decodeCop0Rs w = .error .reservedInstruction := by
  unfold decodeCop0Rs
  split
  case h_5 => rfl
  all_goals exact absurd h (by rw [‹rsBits w = _›]; decide)

theorem decodeCo_reserved (h : functOf w ∉ [0x01#6, 0x02#6, 0x06#6, 0x08#6, 0x18#6]) :
    decodeCo w = .error .reservedInstruction := by
  unfold decodeCo
  split
  case h_6 => rfl
  all_goals exact absurd h (by rw [‹functOf w = _›]; decide)

theorem decode_primary_reserved (h : opcodeOf w ∈ [0x13#6, 0x1C#6, 0x1D#6, 0x1E#6, 0x1F#6, 0x33#6, 0x3B#6]) :
    decode w = .error .reservedInstruction := by
  unfold decode
  split
  case h_58 => rfl
  all_goals exact absurd h (by rw [‹opcodeOf w = _›]; decide)

/-- The maps reject every word marked RI. -/
theorem decode_reserved (h : ReservedWord w) : decode w = .error .reservedInstruction := by
  obtain h | ⟨ho, h⟩ | ⟨ho, h⟩ | ⟨ho, hco, h⟩ | ⟨ho, hco, h⟩ := h
  · exact decode_primary_reserved h
  · exact (decode_special ho).trans (decodeSpecial_reserved h)
  · exact (decode_regimm ho).trans (decodeRegimm_reserved h)
  · exact (decode_cop0Rs ho hco).trans (decodeCop0Rs_reserved h)
  · exact (decode_co ho hco).trans (decodeCo_reserved h)

theorem decodeFmtS_unassigned (low : 0x10#6 ≤ functOf w) (high : functOf w < 0x30#6)
    (h : functOf w ∉ [0x21#6, 0x24#6, 0x25#6]) : decodeFmtS w = .error .unimplementedCop1 := by
  unfold decodeFmtS
  split
  case h_36 => rfl
  all_goals exact absurd (And.intro low (And.intro high h)) (by rw [‹functOf w = _›]; decide)

theorem decodeFmtD_unassigned (low : 0x10#6 ≤ functOf w) (high : functOf w < 0x30#6)
    (h : functOf w ∉ [0x20#6, 0x24#6, 0x25#6]) : decodeFmtD w = .error .unimplementedCop1 := by
  unfold decodeFmtD
  split
  case h_36 => rfl
  all_goals exact absurd (And.intro low (And.intro high h)) (by rw [‹functOf w = _›]; decide)

theorem decodeFmtW_unassigned (h : functOf w ∉ [0x20#6, 0x21#6]) : decodeFmtW w = .error .unimplementedCop1 := by
  unfold decodeFmtW
  split
  case h_3 => rfl
  all_goals exact absurd h (by rw [‹functOf w = _›]; decide)

theorem decodeFmtL_unassigned (h : functOf w ∉ [0x20#6, 0x21#6]) : decodeFmtL w = .error .unimplementedCop1 := by
  unfold decodeFmtL
  split
  case h_3 => rfl
  all_goals exact absurd h (by rw [‹functOf w = _›]; decide)

theorem decodeCop1_unassigned (h : rsBits w ∉ [0#5, 1#5, 2#5, 4#5, 5#5, 6#5, 8#5, 16#5, 17#5, 20#5, 21#5]) :
    decodeCop1 w = .error .unimplementedCop1 := by
  unfold decodeCop1
  split
  case h_12 => rfl
  all_goals exact absurd h (by rw [‹rsBits w = _›]; decide)

/-- The maps reject every COP1 word that R118 assigns to nothing. -/
theorem decode_unassignedCop1 (h : UnassignedCop1 w) : decode w = .error .unimplementedCop1 := by
  obtain ⟨ho, h | ⟨hrs, low, high, h⟩ | ⟨hrs, low, high, h⟩ | ⟨hrs, h⟩ | ⟨hrs, h⟩⟩ := h
  · exact (decode_cop1 ho).trans (decodeCop1_unassigned h)
  · exact (decode_fmtS ho hrs).trans (decodeFmtS_unassigned low high h)
  · exact (decode_fmtD ho hrs).trans (decodeFmtD_unassigned low high h)
  · exact (decode_fmtW ho hrs).trans (decodeFmtW_unassigned h)
  · exact (decode_fmtL ho hrs).trans (decodeFmtL_unassigned h)

theorem executeOne_of_error {r : Rejection} (h : decode w = .error r) (s : State) :
    executeOne w s = execRejected r s := by
  rw [executeOne, h]

end

/-! ### The rows of COP0 and COP1 (30_encoding.md R117, R118) -/

/-- The CO bit is the top bit of `rs`. -/
theorem getLsbD_rsBits_four (w : Word) : (rsBits w).getLsbD 4 = coBit w := BitVec.getLsbD_extractLsb' ..

/-- A row that fixes the opcode and `rs`. -/
theorem encodes_opcode_rs (o : BitVec 6) (r : BitVec 5) {i : Word → Instr}
    (row : ∀ w, opcodeOf w = o → rsBits w = r → decode w = .ok (i w)) :
    Encodes (encodeR o r 0#5 0#5 0#5 0#6) 0xFFE00000#32 i := by
  intro w hw
  have opcode : opcodeOf w = o := (extract_of_mask hw 26 6 rfl).trans (opcodeOf_encodeR ..)
  have rs : rsBits w = r := (extract_of_mask hw 21 5 rfl).trans (rsBits_encodeR ..)
  exact row w opcode rs

/-- A row of COP0 without the CO bit; the map is read at the row named. -/
theorem encodes_cop0Rs (r : BitVec 5) {i : Word → Instr} (hr : r.getLsbD 4 = false := by rfl)
    (row : ∀ w, rsBits w = r → decodeCop0Rs w = .ok (i w) := by intro w h; rw [decodeCop0Rs, h]; rfl) :
    Encodes (encodeR 0x10#6 r 0#5 0#5 0#5 0#6) 0xFFE00000#32 i :=
  encodes_opcode_rs 0x10#6 r fun w ho hrs =>
    (decode_cop0Rs ho ((getLsbD_rsBits_four w).symm.trans (hrs ▸ hr))).trans (row w hrs)

/-- A row of COP1 that fixes `rs` alone; the map is read at the row named. -/
theorem encodes_cop1 (r : BitVec 5) {i : Word → Instr}
    (row : ∀ w, rsBits w = r → decodeCop1 w = .ok (i w) := by intro w h; rw [decodeCop1, h]; rfl) :
    Encodes (encodeR 0x11#6 r 0#5 0#5 0#5 0#6) 0xFFE00000#32 i :=
  encodes_opcode_rs 0x11#6 r fun w ho hrs => (decode_cop1 ho).trans (row w hrs)

/-- A row of the CO map, which fixes the CO bit and `funct`; the map is read at the row named. -/
theorem encodes_co (f : BitVec 6) {i : Word → Instr}
    (row : ∀ w, functOf w = f → decodeCo w = .ok (i w) := by intro w h; rw [decodeCo, h]; rfl) :
    Encodes (encodeCo f) 0xFE00003F#32 i := by
  intro w hw
  have opcode : opcodeOf w = 0x10#6 := (extract_of_mask hw 26 6 rfl).trans (opcodeOf_encodeCo ..)
  have funct : functOf w = f := (extract_of_mask hw 0 6 rfl).trans (functOf_encodeCo ..)
  have bit : (w &&& 0xFE00003F#32).getLsbD 25 = true := hw ▸ coBit_encodeCo f
  rw [BitVec.getLsbD_and, Bool.and_eq_true] at bit
  obtain ⟨co, -⟩ := bit
  exact (decode_co opcode co).trans (row w funct)

/-! ### What only raises (R323 to R326, 47_fpu_arith.md R361) -/

theorem raisesOnly_raiseWith (e : Exception) (ce : BitVec 2) (s : State) :
    RaisesOnly (raiseWith e ce s) s e.code ce := by
  obtain ⟨t, next, taken, counted, only, -⟩ := raiseWith_spec e ce (Edits.refl [] s) (by simp)
  exact ⟨t, next, taken, counted, only⟩

section
variable {i : Instr} {s : State}

theorem raisesOnly_unimplementedCop1 (h : statusCU1 s.status = false) :
    RaisesOnly (unimplementedCop1 s) s 11#5 1#2 := by
  rw [unimplementedCop1, checkCU1, if_neg (Bool.eq_false_iff.mp h)]
  exact raisesOnly_raiseWith .coprocessorUnusable 1#2 s

theorem unimplementedCop1_of_cu1 (h : statusCU1 s.status = true) :
    unimplementedCop1 s = fpFinish { e := true } id s := if_pos h

theorem traps_of_reserved (he : exec i s = reservedInstruction s) : Traps i s 10#5 0#2 := traps_of he rfl

theorem traps_of_coprocessor2 (he : exec i s = coprocessor2Unusable s) : Traps i s 11#5 2#2 := traps_of he rfl

/-- DMFC1 and DMTC1: CpU comes before RI (R325). -/
theorem needsCU1_reserved (he : exec i s = checkCU1 s (reservedInstruction s)) :
    NeedsCU1 i s (Traps i s 10#5 0#2) :=
  ⟨traps_of_checkCU1 he, fun cu1 => traps_of_reserved (exec_of_checkCU1 he cu1)⟩

/-! ### The conditional traps (R318) -/

/-- `trapIf` is the rule of R318. -/
theorem trapsIf_of {c : Bool} {p : Prop} (he : exec i s = trapIf c s) (hc : c = true ↔ p) : TrapsIf p i s :=
  ⟨fun holds => traps_of (he.trans (if_pos (hc.mpr holds))) rfl,
    fun fails => doesNothing_of (he.trans (if_neg (mt hc.mp fails)))⟩

end

section
variable (x y : Word) (imm : BitVec 16)

theorem not_slt_iff : (!x.slt y) = true ↔ y.toInt ≤ x.toInt := by
  rw [Bool.not_eq_true', ← Bool.not_eq_true, BitVec.slt_iff_toInt_lt, Int.not_lt]

theorem not_ult_iff : (!x.ult y) = true ↔ y.toNat ≤ x.toNat := by
  rw [Bool.not_eq_true', ← Bool.not_eq_true, BitVec.ult_iff_toNat_lt, Nat.not_lt]

theorem beq_sext_iff : (x == sext imm) = true ↔ x.toInt = imm.toInt := by
  rw [beq_iff_eq, ← BitVec.toInt_inj, toInt_sext]

theorem bne_sext_iff : (x != sext imm) = true ↔ x.toInt ≠ imm.toInt := by
  rw [bne_iff_ne, Ne, ← BitVec.toInt_inj, toInt_sext]

end

/-! ### ERET (R322) -/

section
variable {s : State}

theorem exceptionReturn_of_erl (h : statusERL s.status = true) :
    exceptionReturn s = (s.cp0 30, (s.setCp0 regStatus (putERL s.status false)).setLL false) := if_pos h

theorem exceptionReturn_of_not_erl (h : statusERL s.status = false) :
    exceptionReturn s = (s.cp0 14, (s.setCp0 regStatus (putEXL s.status false)).setLL false) :=
  if_neg (Bool.eq_false_iff.mp h)

/-- ERET outside a delay slot: it returns to `target`, with bit `n` of Status cleared. -/
theorem transfers_eret {target : Word} {n : Nat} (hn : n < 32) (hd : s.cpu.delay = .none)
    (h : exceptionReturn s = (target, (s.setCp0 regStatus (putBit s.status n false)).setLL false)) :
    Transfers .eret s target .none [.cp0 12, .llbit] (fun t =>
      t.cpu.llbit = false ∧ ∀ k, bitAt t.status k = (decide (k ≠ n) && bitAt s.status k)) := by
  have ends : exec .eret s = finish (.jump (exceptionReturn s).1) (exceptionReturn s).2 := if_pos hd
  rw [h] at ends
  refine transfers_of hd ends ((edits_setCp0 s regStatus _).trans (edits_setLL _ false)) rfl rfl ⟨by simp, fun k => ?_⟩
  have status : (sequence (.jump target) ((s.setCp0 regStatus (putBit s.status n false)).setLL false).count).status =
      putBit s.status n false := by simp [State.status]
  rw [status, bitAt_putBit _ _ _ _ hn]
  by_cases hk : k = n <;> simp [hk]

end

/-! ### The obligations -/

/-- Settles O4: the decoder rejects each word, and a rejection is RI or E with FPE. -/
theorem unassignedWords : Obligations.UnassignedWords := by
  refine ⟨fun w s reserved => ?_, fun w s unassigned => ?_⟩
  · rw [executeOne_of_error (decode_reserved reserved)]
    exact raisesOnly_raiseWith .reservedInstruction 0#2 s
  · have run : executeOne w s = unimplementedCop1 s := executeOne_of_error (decode_unassignedCop1 unassigned) s
    rw [run]
    refine ⟨raisesOnly_unimplementedCop1, fun cu1 => ?_⟩
    obtain ⟨t, next, taken, counted, only, bits⟩ := fpFinish_traps (c := { e := true }) (write := id) (s := s) rfl
    refine ⟨t, (unimplementedCop1_of_cu1 cu1).trans next, taken, counted, only, fun n => (bits n).trans ?_⟩
    refine ite_congr rfl (fun ⟨low, high⟩ => ?_) fun _ => rfl
    interval_cases n <;> rfl

/-- Settles O17: each row raises, and DMFC1 and DMTC1 after CheckCU1. -/
theorem alwaysRaise : Obligations.AlwaysRaise :=
  ⟨encodes_special 0x0C#6, encodes_special 0x0D#6,
    fun _ _ => traps_of rfl rfl, fun _ _ => traps_of rfl rfl,
    encodes_co 0x01#6, encodes_co 0x02#6, encodes_co 0x06#6, encodes_co 0x08#6,
    encodes_primary 0x18#6, encodes_primary 0x19#6, encodes_primary 0x1A#6, encodes_primary 0x1B#6,
    encodes_primary 0x27#6, encodes_primary 0x2C#6, encodes_primary 0x2D#6, encodes_primary 0x34#6,
    encodes_primary 0x37#6, encodes_primary 0x3C#6, encodes_primary 0x3F#6,
    encodes_special 0x14#6, encodes_special 0x16#6, encodes_special 0x17#6, encodes_special 0x2C#6,
    encodes_special 0x2D#6, encodes_special 0x2E#6, encodes_special 0x2F#6, encodes_special 0x1C#6,
    encodes_special 0x1D#6, encodes_special 0x1E#6, encodes_special 0x1F#6, encodes_special 0x38#6,
    encodes_special 0x3A#6, encodes_special 0x3B#6, encodes_special 0x3C#6, encodes_special 0x3E#6,
    encodes_special 0x3F#6,
    encodes_cop0Rs 0x01#5, encodes_cop0Rs 0x05#5, encodes_cop1 0x01#5, encodes_cop1 0x05#5,
    -- TLBR, TLBWI, TLBWR, TLBP
    fun _ => traps_of_reserved rfl, fun _ => traps_of_reserved rfl,
    fun _ => traps_of_reserved rfl, fun _ => traps_of_reserved rfl,
    -- DADDI to SD: the immediate doubleword rows
    fun _ _ _ _ => traps_of_reserved rfl, fun _ _ _ _ => traps_of_reserved rfl, fun _ _ _ _ => traps_of_reserved rfl,
    fun _ _ _ _ => traps_of_reserved rfl, fun _ _ _ _ => traps_of_reserved rfl, fun _ _ _ _ => traps_of_reserved rfl,
    fun _ _ _ _ => traps_of_reserved rfl, fun _ _ _ _ => traps_of_reserved rfl, fun _ _ _ _ => traps_of_reserved rfl,
    fun _ _ _ _ => traps_of_reserved rfl, fun _ _ _ _ => traps_of_reserved rfl,
    -- DSLLV to DSUBU
    fun _ _ _ _ => traps_of_reserved rfl, fun _ _ _ _ => traps_of_reserved rfl, fun _ _ _ _ => traps_of_reserved rfl,
    fun _ _ _ _ => traps_of_reserved rfl, fun _ _ _ _ => traps_of_reserved rfl, fun _ _ _ _ => traps_of_reserved rfl,
    fun _ _ _ _ => traps_of_reserved rfl,
    -- DMULT, DMULTU, DDIV, DDIVU
    fun _ _ _ => traps_of_reserved rfl, fun _ _ _ => traps_of_reserved rfl,
    fun _ _ _ => traps_of_reserved rfl, fun _ _ _ => traps_of_reserved rfl,
    -- DSLL to DSRA32
    fun _ _ _ _ => traps_of_reserved rfl, fun _ _ _ _ => traps_of_reserved rfl, fun _ _ _ _ => traps_of_reserved rfl,
    fun _ _ _ _ => traps_of_reserved rfl, fun _ _ _ _ => traps_of_reserved rfl, fun _ _ _ _ => traps_of_reserved rfl,
    -- DMFC0, DMTC0, DMFC1, DMTC1
    fun _ _ _ => traps_of_reserved rfl, fun _ _ _ => traps_of_reserved rfl,
    fun _ _ _ => needsCU1_reserved rfl, fun _ _ _ => needsCU1_reserved rfl,
    -- COP2 and its loads and stores
    encodes_primary 0x12#6, encodes_primary 0x32#6, encodes_primary 0x36#6, encodes_primary 0x3A#6,
    encodes_primary 0x3E#6,
    fun _ _ => traps_of_coprocessor2 rfl, fun _ _ _ _ => traps_of_coprocessor2 rfl,
    fun _ _ _ _ => traps_of_coprocessor2 rfl, fun _ _ _ _ => traps_of_coprocessor2 rfl,
    fun _ _ _ _ => traps_of_coprocessor2 rfl⟩

/-- Settles O18: each row is a conditional trap on a comparison of the operands. -/
theorem trapInstructions : Obligations.TrapInstructions :=
  ⟨encodes_special 0x30#6,
    encodes_special 0x31#6,
    encodes_special 0x32#6,
    encodes_special 0x33#6,
    encodes_special 0x34#6,
    encodes_special 0x36#6,
    encodes_regimm 0x08#5,
    encodes_regimm 0x09#5,
    encodes_regimm 0x0A#5,
    encodes_regimm 0x0B#5,
    encodes_regimm 0x0C#5,
    encodes_regimm 0x0E#5,
    fun _ _ _ _ => trapsIf_of rfl (not_slt_iff ..),
    fun _ _ _ _ => trapsIf_of rfl (not_ult_iff ..),
    fun _ _ _ _ => trapsIf_of rfl BitVec.slt_iff_toInt_lt,
    fun _ _ _ _ => trapsIf_of rfl BitVec.ult_iff_toNat_lt,
    fun _ _ _ _ => trapsIf_of rfl beq_iff_eq,
    fun _ _ _ _ => trapsIf_of rfl bne_iff_ne,
    fun _ _ imm => toInt_sext imm ▸ trapsIf_of rfl (not_slt_iff ..),
    fun _ _ imm => sext_eq_ofInt imm ▸ trapsIf_of rfl (not_ult_iff ..),
    fun _ _ imm => toInt_sext imm ▸ trapsIf_of rfl BitVec.slt_iff_toInt_lt,
    fun _ _ imm => sext_eq_ofInt imm ▸ trapsIf_of rfl BitVec.ult_iff_toNat_lt,
    fun _ _ _ => trapsIf_of rfl (beq_sext_iff ..),
    fun _ _ _ => trapsIf_of rfl (bne_sext_iff ..)⟩

/-- Settles O19: MFC0 and MTC0 move one register, ERET returns by `transfers_eret` or is refused. -/
theorem cp0Instructions : Obligations.Cp0Instructions :=
  ⟨encodes_cop0Rs 0x00#5,
    encodes_cop0Rs 0x04#5,
    fun _ _ _ => writesX_of rfl,
    fun s rt rd => completes_of rfl (edits_setCp0 s rd (s.x rt)) (by simp),
    encodes_co 0x18#6,
    fun _ hd erl => transfers_eret (by decide) hd (exceptionReturn_of_erl erl),
    fun _ hd erl => transfers_eret (by decide) hd (exceptionReturn_of_not_erl erl),
    fun _ hd => if_neg hd⟩

end Sys2Proof.Machine
end

section
/-! SUPPORT. The family 46_fpu_move: the rows of the FPU branches by their fixed bits, CheckCU1 before every effect,
CTC1's test of the value written, and the words that begin with CheckCU1. -/

namespace Sys2Proof.Machine

/-! ### The rows of the FPU branches (30_encoding.md R118) -/

/-- A row of COP1 that fixes `rs`, `nd` and `tf`; the map is read at the row named. -/
theorem encodes_bc (b : BitVec 5) {i : Word → Instr}
    (row : ∀ w, bcBits w = b.extractLsb' 0 2 → decodeBc w = .ok (i w) := by intro w h; rw [decodeBc, h]; rfl) :
    Encodes (encodeI 0x11#6 0x08#5 b 0#16) 0xFFE30000#32 i := by
  intro w hw
  have opcode : opcodeOf w = 0x11#6 := (extract_of_mask hw 26 6 rfl).trans (opcodeOf_encodeI ..)
  have rs : rsBits w = 0x08#5 := (extract_of_mask hw 21 5 rfl).trans (rsBits_encodeI ..)
  have bc : bcBits w = b.extractLsb' 0 2 := (extract_of_mask hw 16 2 rfl).trans (bcBits_encodeI ..)
  exact (decode_bc opcode rs).trans (row w bc)

/-! ### CheckCU1, then the effect (R344) -/

section
variable {i : Instr} {s : State}

/-- An instruction that begins with CheckCU1 needs CU1; with it, the rest decides. -/
theorem needsCU1_of {body : Result} {effect : Prop} (he : exec i s = checkCU1 s body)
    (h : exec i s = body → effect) : NeedsCU1 i s effect :=
  ⟨traps_of_checkCU1 he, fun cu1 => h (exec_of_checkCU1 he cu1)⟩

/-- An FPU branch outside a delay slot. -/
theorem needsCU1_branch {likely c : Bool} {p : Prop} {offset : BitVec 16} (hd : s.cpu.delay = .none)
    (hc : c = true ↔ p)
    (he : exec i s = controlTransfer s (checkCU1 s (branch likely c (branchTarget s offset) s))) :
    NeedsCU1 i s (Branches p likely i s (targetAt s offset) [] (fun _ => True)) :=
  needsCU1_of (he.trans (if_pos hd)) fun run => branches_of_plain hd hc (run.trans (if_pos hd).symm)

theorem not_fcsrC_iff : (!fcsrC s.fcsr) = true ↔ bitAt s.fcsr 23 = false := iff_of_eq (Bool.not_eq_true' _)

/-- A load of an FPU register: one counted read, then the register written. -/
theorem loadsFpr_of {d : Reg} {va : Word} {w n : Nat} {f : BitVec w → DWord} (hw : w = 8 * n)
    (he : exec i s = complete (s.countRead.setFpr d (f (s.memValue w n va)))) : LoadsFpr i s d va w n f :=
  ⟨s.memValue w n va, s.holds_memValue w n hw va,
    completes_of he ((edits_countRead s).trans (edits_setFpr _ d _) |>.mono (by simp)) (by simp)⟩

end

/-! ### The W view (R341, R342) -/

theorem State.viewW_eq (s : State) (i : Reg) : s.viewW i = (s.fpr i).extractLsb' 0 32 :=
  BitVec.setWidth_eq_extractLsb' (by decide)

/-- The low bytes of a value are those of its low part. -/
theorem beBytes_setWidth {w m : Nat} (v : BitVec w) {n : Nat} (h : 8 * n ≤ m) :
    beBytes (v.setWidth m) n = beBytes v n := by
  induction n with
  | zero => rfl
  | succ n ih =>
    rw [beBytes, beBytes, ih (by omega), BitVec.extractLsb'_setWidth_of_le (by omega)]

theorem exec_lwc1 (ft base : Reg) (offset : BitVec 16) (s : State) :
    exec (.lwc1 ft base offset) s =
      checkCU1 s (complete (s.countRead.setFpr ft (lowHalf s ft (s.memValue 32 4 (addressAt s base offset))))) := by
  rw [← effectiveAddress_eq]
  rfl

theorem exec_swc1 (ft base : Reg) (offset : BitVec 16) (s : State) :
    exec (.swc1 ft base offset) s =
      checkCU1 s (storeBytes (addressAt s base offset) (beBytes (s.fpr ft) 4) s) := by
  rw [← effectiveAddress_eq, ← beBytes_setWidth (s.fpr ft) (m := 32) (by decide)]
  rfl

/-! ### CTC1 (R348) -/

/-- Two fields meet in a bit. -/
theorem and_ne_zero_iff {k : Nat} (a b : BitVec k) :
    a &&& b ≠ 0#k ↔ ∃ n, n < k ∧ a.getLsbD n = true ∧ b.getLsbD n = true := by
  rw [Ne, BitVec.eq_of_getLsbD_eq_iff]
  simp

/-- The test as a condition on bits: E, or a Cause bit and its Enable. -/
theorem fcsrTraps_iff (v : Word) : fcsrTraps v = true ↔
    bitAt v 17 = true ∨ ∃ n, n < 5 ∧ bitAt v (12 + n) = true ∧ bitAt v (7 + n) = true := by
  rw [fcsrTraps, Bool.or_eq_true, bne_iff_ne, and_ne_zero_iff]
  refine or_congr_right (exists_congr fun n => and_congr_right fun hn => ?_)
  rw [fcsrEnables, getLsbD_fieldAt, getLsbD_fieldAt, decide_eq_true hn, Bool.true_and, Bool.true_and]

section
variable {s : State} {rt fs : Reg}

theorem exec_ctc1 (s : State) (rt fs : Reg) : exec (.ctc1 rt fs) s = checkCU1 s
    (if fs = regFCSR ∧ fcsrTraps (s.x rt) then raise .floatingPoint (s.setFcr fs (s.x rt))
      else complete (s.setFcr fs (s.x rt))) := rfl

/-- The one write that survives its own exception. -/
theorem ctc1_raises (he : exec (.ctc1 rt fs) s = raise .floatingPoint (s.setFcr fs (s.x rt))) (hfs : fs = 31) :
    ∃ t, exec (.ctc1 rt fs) s = .next t ∧ TrapTaken 15#5 0#2 s t ∧ Counted s t ∧
      OnlyChanges (.fcr fs :: trapParts) s t ∧ t.fcr fs = s.x rt := by
  obtain ⟨t, next, taken, counted, only, fcsr⟩ :=
    raiseWith_spec .floatingPoint 0#2 (edits_setFcr s fs (s.x rt)) (by simp)
  refine ⟨t, he.trans next, taken, counted, only, ?_⟩
  subst hfs
  exact fcsr.trans ((State.setFcr_fcr ..).trans (if_pos rfl))

theorem ctc1_completes (he : exec (.ctc1 rt fs) s = complete (s.setFcr fs (s.x rt))) :
    Completes (.ctc1 rt fs) s [.fcr fs] (fun t => t.fcr fs = s.x rt) :=
  completes_of he (edits_setFcr s fs _) (by simp)

end

/-! ### The words that begin with CheckCU1 (R340, R344) -/

/-- What the decoder answers begins, from `s`, with CheckCU1. -/
inductive ChecksCU1 (s : State) : Decoded → Prop where
  | instruction {i : Instr} (body : Result) (h : exec i s = checkCU1 s body) : ChecksCU1 s (.ok i)
  | unassigned : ChecksCU1 s (.error .unimplementedCop1)

section
variable {w : Word} {s : State}

theorem ChecksCU1.raisesOnly (h : ChecksCU1 s (decode w)) (cu1 : statusCU1 s.status = false) :
    RaisesOnly (executeOne w s) s 11#5 1#2 := by
  rw [executeOne]
  generalize decode w = d at h ⊢
  cases h with
  | instruction body run => exact traps_of_checkCU1 run cu1
  | unassigned => exact raisesOnly_unimplementedCop1 cu1

theorem checksCU1_decodeBc (hd : s.cpu.delay = .none) : ChecksCU1 s (decodeBc w) := by
  unfold decodeBc
  split <;> exact .instruction _ (if_pos hd)

theorem checksCU1_decodeFmtS : ChecksCU1 s (decodeFmtS w) := by
  unfold decodeFmtS
  split
  case h_36 => exact .unassigned
  all_goals exact .instruction _ rfl

theorem checksCU1_decodeFmtD : ChecksCU1 s (decodeFmtD w) := by
  unfold decodeFmtD
  split
  case h_36 => exact .unassigned
  all_goals exact .instruction _ rfl

theorem checksCU1_decodeFmtW : ChecksCU1 s (decodeFmtW w) := by
  unfold decodeFmtW
  split
  case h_3 => exact .unassigned
  all_goals exact .instruction _ rfl

theorem checksCU1_decodeFmtL : ChecksCU1 s (decodeFmtL w) := by
  unfold decodeFmtL
  split
  case h_3 => exact .unassigned
  all_goals exact .instruction _ rfl

/-- Every COP1 word; the FPU branches are refused in a delay slot. -/
theorem checksCU1_decodeCop1 (hd : rsBits w = 8#5 → s.cpu.delay = .none) : ChecksCU1 s (decodeCop1 w) := by
  unfold decodeCop1
  split
  case h_7 rs => exact checksCU1_decodeBc (hd rs)
  case h_8 => exact checksCU1_decodeFmtS
  case h_9 => exact checksCU1_decodeFmtD
  case h_10 => exact checksCU1_decodeFmtW
  case h_11 => exact checksCU1_decodeFmtL
  case h_12 => exact .unassigned
  all_goals exact .instruction _ rfl

theorem checksCU1_decode (fpu : FpuWord w) (hd : opcodeOf w = 0x11#6 ∧ rsBits w = 8#5 → s.cpu.delay = .none) :
    ChecksCU1 s (decode w) := by
  simp only [FpuWord, List.mem_cons, List.not_mem_nil, or_false] at fpu
  obtain ho | ho | ho | ho | ho := fpu
  · rw [decode_cop1 ho]
    exact checksCU1_decodeCop1 fun rs => hd ⟨ho, rs⟩
  all_goals
    rw [decode, ho]
    exact .instruction _ rfl

end

/-! ### The obligations -/

/-- Settles O20: each row is a move after CheckCU1; CTC1 by its test of the value written. -/
theorem fpuMoves : Obligations.FpuMoves := by
  refine ⟨encodes_cop1 0x00#5,
    encodes_cop1 0x04#5,
    encodes_cop1 0x02#5,
    encodes_cop1 0x06#5,
    fun s _ fs => needsCU1_of rfl fun run => s.viewW_eq fs ▸ writesX_of run,
    fun s rt fs => needsCU1_of rfl fun run => completes_of run (edits_setFpr s fs _) ?_,
    fun _ _ _ => needsCU1_of rfl writesX_of,
    fun s rt fs => needsCU1_of (exec_ctc1 s rt fs) fun run => ?_⟩
  · rw [sequence_fpr, State.count_fpr, State.setViewW_eq, State.setFpr_fpr, if_pos rfl]
    exact ⟨BitVec.extractLsb'_append_eq_right, BitVec.extractLsb'_append_eq_left⟩
  · rw [← fcsrTraps_iff]
    exact ⟨fun traps => ctc1_raises (run.trans (if_pos traps)) traps.1,
      fun quiet => ctc1_completes (run.trans (if_neg quiet))⟩

/-- Settles O21: each row is a load or a store after CheckCU1. -/
theorem fpuLoadsAndStores : Obligations.FpuLoadsAndStores :=
  ⟨encodes_primary 0x31#6,
    encodes_primary 0x39#6,
    encodes_primary 0x35#6,
    encodes_primary 0x3D#6,
    fun s ft base offset => needsCU1_of (exec_lwc1 ft base offset s) fun run => loadsFpr_of rfl run,
    fun s ft base offset hm => needsCU1_of (exec_swc1 ft base offset s) fun run => storesAt_beBytes hm _ _ 4 run,
    fun s ft base offset => needsCU1_of (exec_ldc1 ft base offset s) fun run => loadsFpr_of rfl run,
    fun s ft base offset hm => needsCU1_of (exec_sdc1 ft base offset s) fun run => storesAt_beBytes hm _ _ 8 run⟩

/-- Settles O22: each row is a branch on FCSR bit 23 after CheckCU1. -/
theorem fpuBranches : Obligations.FpuBranches :=
  ⟨encodes_bc 0x00#5,
    encodes_bc 0x01#5,
    encodes_bc 0x02#5,
    encodes_bc 0x03#5,
    fun _ _ hd => needsCU1_branch hd not_fcsrC_iff rfl,
    fun _ _ hd => needsCU1_branch hd Iff.rfl rfl,
    fun _ _ hd => needsCU1_branch hd not_fcsrC_iff rfl,
    fun _ _ hd => needsCU1_branch hd Iff.rfl rfl⟩

/-- Settles O23: every word of the five opcodes decodes to something that begins with CheckCU1. -/
theorem checkCU1First : Obligations.CheckCU1First :=
  fun _ _ fpu cu1 hd => (checksCU1_decode fpu hd).raisesOnly cu1

end Sys2Proof.Machine
end

section
/-! SUPPORT. The family 47_fpu_arith: each operation meets its rule for all values, and each row of COP1 that computes
is that operation between CheckCU1 and FPFinish. -/

namespace Sys2Proof.Machine

/-! ### NaNs, infinities and zeros (R360, R362, R363) -/

section
variable {f : Format} {rm : Rounding}

theorem invalidIf_eq (q : Bool) : FpCause.invalidIf q = if q then FpCause.invalid else FpCause.none := by
  cases q <;> rfl

theorem nanRule_nanResult (q : Bool) : NanRule f q (nanResult f q) := ⟨rfl, invalidIf_eq q⟩

theorem exactRule_infResult (neg : Bool) : ExactRule (infBits f neg) (infResult f neg) := ⟨rfl, rfl⟩

theorem exactRule_zeroResult (neg : Bool) : ExactRule (signBits f neg) (zeroResult f neg) := ⟨rfl, rfl⟩

theorem invalidRule_invalidResult : InvalidRule f (invalidResult f) := ⟨rfl, rfl⟩

/-- A finite value is zero exactly when its magnitude is. -/
theorem signed_eq_zero_iff (neg : Bool) (mant : ℕ) (exp : ℤ) :
    (if neg then -1 else 1) * (mant : ℝ) * 2 ^ exp = 0 ↔ mant = 0 := by
  cases neg <;> simp [(two_zpow_pos exp).ne']

theorem real_eq_zero_iff (neg : Bool) (mant : ℕ) (exp : ℤ) :
    (FpValue.finite neg mant exp).real = some 0 ↔ mant = 0 :=
  Option.some_inj.trans (signed_eq_zero_iff neg mant exp)

/-- The sign of a product (R370). -/
theorem sign_xor_eq_mul (na nb : Bool) :
    (if na ^^ nb then -1 else 1 : ℝ) = (if na then -1 else 1) * (if nb then -1 else 1) := by
  cases na <;> cases nb <;> simp

/-- The sign of a quotient (R371). -/
theorem sign_xor_eq_div (na nb : Bool) :
    (if na ^^ nb then -1 else 1 : ℝ) = (if na then -1 else 1) / (if nb then -1 else 1) := by
  cases na <;> cases nb <;> simp

/-- An integer as a sign and a magnitude. -/
theorem int_eq_signed_natAbs (v : ℤ) : (v : ℝ) = (if decide (v < 0) then -1 else 1) * (v.natAbs : ℝ) := by
  rw [Nat.cast_natAbs]
  by_cases neg : v < 0
  · rw [if_pos (decide_eq_true neg), abs_of_neg neg, Int.cast_neg, neg_one_mul, neg_neg]
  · rw [if_neg (by simpa using neg), abs_of_nonneg (not_lt.mp neg), one_mul]

/-! ### ADD and SUB (R368, R369) -/

/-- A nonzero sum in units of the smaller operand's last place is delivered. -/
theorem roundTo_sum_delivers {sum unit : ℤ} (h : sum ≠ 0) :
    Delivers f rm (sum * 2 ^ unit) (roundTo f rm (sum < 0) sum.natAbs unit false) := by
  rw [int_eq_signed_natAbs sum, mul_assoc]
  exact roundTo_delivers (Int.natAbs_ne_zero.mpr h) (by simp [Magnitude]) (by simp)

theorem sumRule_finite (na nb : Bool) (ma mb : ℕ) (ea eb : ℤ) :
    SumRule f rm (.finite na ma ea) (.finite nb mb eb) (fpAdd f rm (.finite na ma ea) (.finite nb mb eb)) := by
  rintro _ _ ⟨⟩ ⟨⟩
  rw [← scaled_real (min_le_left ea eb), ← scaled_real (min_le_right ea eb), ← add_mul, ← Int.cast_add]
  simp only [fpAdd]
  generalize scaled na ma ea (min ea eb) + scaled nb mb eb (min ea eb) = sum
  have zero : (sum * 2 ^ min ea eb : ℝ) = 0 ↔ sum = 0 := by simp [(two_zpow_pos (min ea eb)).ne']
  rw [Ne, zero]
  refine ⟨fun h => ?_, fun h => ?_⟩
  · rw [if_neg h]; exact roundTo_sum_delivers h
  · rw [if_pos h]; exact exactRule_zeroResult _

theorem fpAdd_rule (a b : FpValue) : SumRule f rm a b (fpAdd f rm a b) := by
  cases a with
  | nan p => cases b <;> exact nanRule_nanResult _
  | inf na =>
    cases b with
    | nan q => exact nanRule_nanResult q
    | inf nb =>
      simp only [SumRule, fpAdd]
      split
      · exact exactRule_infResult na
      · exact invalidRule_invalidResult
    | finite => exact exactRule_infResult na
  | finite na ma ea =>
    cases b with
    | nan q => exact nanRule_nanResult q
    | inf nb => exact exactRule_infResult nb
    | finite nb mb eb => exact sumRule_finite na nb ma mb ea eb

/-! ### MUL (R370) -/

theorem productRule_finite (na nb : Bool) (ma mb : ℕ) (ea eb : ℤ) :
    ProductRule f rm (.finite na ma ea) (.finite nb mb eb) (fpMul f rm (.finite na ma ea) (.finite nb mb eb)) := by
  rintro _ _ ⟨⟩ ⟨⟩
  refine roundFinite_delivers f rm (na ^^ nb) (ma * mb) (ea + eb) _ ?_
  rw [sign_xor_eq_mul, zpow_add₀ two_ne_zero, Nat.cast_mul]
  ring

/-- Zero times infinity is invalid; another magnitude times infinity is infinite. -/
theorem timesInfinity_rule (neg na : Bool) (mant : ℕ) (exp : ℤ) :
    ((FpValue.finite na mant exp).real = some 0 →
      InvalidRule f (if mant = 0 then invalidResult f else infResult f neg)) ∧
    ((FpValue.finite na mant exp).real ≠ some 0 →
      ExactRule (infBits f neg) (if mant = 0 then invalidResult f else infResult f neg)) := by
  rw [Ne, real_eq_zero_iff]
  refine ⟨fun h => ?_, fun h => ?_⟩
  · rw [if_pos h]; exact invalidRule_invalidResult
  · rw [if_neg h]; exact exactRule_infResult neg

theorem fpMul_rule (a b : FpValue) : ProductRule f rm a b (fpMul f rm a b) := by
  cases a with
  | nan p => cases b <;> exact nanRule_nanResult _
  | inf na =>
    cases b with
    | nan q => exact nanRule_nanResult q
    | inf nb => exact exactRule_infResult (na ^^ nb)
    | finite nb mb eb => exact timesInfinity_rule (na ^^ nb) nb mb eb
  | finite na ma ea =>
    cases b with
    | nan q => exact nanRule_nanResult q
    | inf nb => exact timesInfinity_rule (na ^^ nb) na ma ea
    | finite nb mb eb => exact productRule_finite na nb ma mb ea eb

/-! ### DIV (R371) -/

theorem quotientRule_finite (na nb : Bool) (ma mb : ℕ) (ea eb : ℤ) :
    QuotientRule f rm (.finite na ma ea) (.finite nb mb eb) (fpDiv f rm (.finite na ma ea) (.finite nb mb eb)) := by
  rintro _ _ ⟨⟩ ⟨⟩
  simp only [Ne, signed_eq_zero_iff, fpDiv]
  refine ⟨fun hb ha => ?_, fun hb ha => ?_, fun hb ha => ?_, fun hb ha => ?_⟩
  · rw [if_neg hb, if_neg ha, mul_assoc, mul_assoc, mul_div_mul_comm, ← sign_xor_eq_div]
    exact roundQuotient_delivers f rm (na ^^ nb) ma ea mb eb ha hb
  · rw [if_neg hb, if_pos ha]; exact exactRule_zeroResult _
  · rw [if_pos hb, if_neg ha]; exact ⟨rfl, rfl⟩
  · rw [if_pos hb, if_pos ha]; exact invalidRule_invalidResult

theorem fpDiv_rule (a b : FpValue) : QuotientRule f rm a b (fpDiv f rm a b) := by
  cases a with
  | nan p => cases b <;> exact nanRule_nanResult _
  | inf na =>
    cases b with
    | nan q => exact nanRule_nanResult q
    | inf nb => exact invalidRule_invalidResult
    | finite nb mb eb => exact exactRule_infResult (na ^^ nb)
  | finite na ma ea =>
    cases b with
    | nan q => exact nanRule_nanResult q
    | inf nb => exact exactRule_zeroResult (na ^^ nb)
    | finite nb mb eb => exact quotientRule_finite na nb ma mb ea eb

/-! ### SQRT (R372) -/

theorem signed_pos_iff (neg : Bool) (mant : ℕ) (exp : ℤ) :
    0 < (if neg then -1 else 1) * (mant : ℝ) * 2 ^ exp ↔ mant ≠ 0 ∧ neg = false := by
  rw [mul_pos_iff_of_pos_right (two_zpow_pos exp)]
  cases neg <;> simp [Nat.pos_iff_ne_zero]

theorem signed_neg_iff (neg : Bool) (mant : ℕ) (exp : ℤ) :
    (if neg then -1 else 1) * (mant : ℝ) * 2 ^ exp < 0 ↔ mant ≠ 0 ∧ neg = true := by
  rw [← neg_pos, ← neg_mul, mul_pos_iff_of_pos_right (two_zpow_pos exp)]
  cases neg <;> simp [Nat.pos_iff_ne_zero]

theorem rootRule_finite (neg : Bool) (mant : ℕ) (exp : ℤ) :
    RootRule f rm (.finite neg mant exp) (fpSqrt f rm (.finite neg mant exp)) := by
  rintro _ ⟨⟩
  rw [signed_pos_iff, signed_neg_iff, signed_eq_zero_iff, fpSqrt]
  refine ⟨fun ⟨hm, hn⟩ => ?_, fun hm => ?_, fun ⟨hm, hn⟩ => ?_⟩
  · rw [if_neg hm, hn, if_neg Bool.false_ne_true, if_neg Bool.false_ne_true, one_mul]
    exact roundRoot_delivers f rm mant exp hm
  · rw [if_pos hm]; exact exactRule_zeroResult neg
  · rw [if_neg hm, if_pos hn]; exact invalidRule_invalidResult

theorem fpSqrt_rule (a : FpValue) : RootRule f rm a (fpSqrt f rm a) := by
  cases a with
  | nan q => exact nanRule_nanResult q
  | inf neg =>
    cases neg
    · exact exactRule_infResult false
    · exact invalidRule_invalidResult
  | finite neg mant exp => exact rootRule_finite neg mant exp

/-! ### CVT.S and CVT.D (R385, R386) -/

/-- A value in another format: a NaN, an infinity, or the real number converted. -/
def FpConverts (f : Format) (rm : Rounding) (a : FpValue) (r : FpResult) : Prop :=
  (∀ q, a = .nan q → NanRule f q r) ∧
  (∀ neg, a = .inf neg → ExactRule (infBits f neg) r) ∧
  (∀ neg mant exp x, a = .finite neg mant exp → a.real = some x → ConvertRule f rm neg x r)

theorem fpConvert_rule (a : FpValue) : FpConverts f rm a (fpConvert f rm a) := by
  refine ⟨?_, ?_, ?_⟩
  · rintro q rfl; exact nanRule_nanResult q
  · rintro neg rfl; exact exactRule_infResult neg
  · rintro neg mant exp _ rfl ⟨⟩
    exact roundFinite_delivers f rm neg mant exp _ (mul_assoc ..)

theorem fpOfInt_rule (v : ℤ) : ConvertRule f rm false (v : ℝ) (fpOfInt f rm v) := by
  have value : (v : ℝ) = (if decide (v < 0) then -1 else 1) * (v.natAbs * 2 ^ (0 : ℤ)) := by
    rw [zpow_zero, mul_one]; exact int_eq_signed_natAbs v
  obtain ⟨nonzero, zero⟩ := roundFinite_delivers f rm (v < 0) v.natAbs 0 v value
  refine ⟨nonzero, fun h => ?_⟩
  obtain rfl : v = 0 := Int.cast_eq_zero.mp h
  exact zero h

end

/-! ### ABS and NEG (R373, R375) -/

section
variable {f : Format} {bits : ℕ}

theorem fpAbs_of_nan {q : Bool} (h : unpack f bits = .nan q) : fpAbs f bits = nanResult f q := by rw [fpAbs, h]

theorem fpNeg_of_nan {q : Bool} (h : unpack f bits = .nan q) : fpNeg f bits = nanResult f q := by rw [fpNeg, h]

theorem fpAbs_of_not_nan (h : ∀ q, unpack f bits ≠ .nan q) :
    fpAbs f bits = { bits := clearSign f bits, cause := .none } := by
  unfold fpAbs
  split
  case h_1 q hq => exact absurd hq (h q)
  all_goals rfl

theorem fpNeg_of_not_nan (h : ∀ q, unpack f bits ≠ .nan q) :
    fpNeg f bits = { bits := flipSign f bits, cause := .none } := by
  unfold fpNeg
  split
  case h_1 q hq => exact absurd hq (h q)
  all_goals rfl

/-- Inverting the top bit is adding it, modulo the width. -/
theorem invertTop_eq {b k : ℕ} (h : b < 2 * k) :
    b % k + (if b / k % 2 == 0 then k else 0) = (b + k) % (2 * k) := by
  rcases Nat.lt_or_ge b k with isClear | isSet
  · have sum : (b + k) % (2 * k) = b + k := Nat.mod_eq_of_lt (by omega)
    rw [sum, Nat.mod_eq_of_lt isClear, Nat.div_eq_of_lt isClear, if_pos (by decide)]
  · have sum : (b + k) % (2 * k) = b - k := by
      rw [show b + k = b - k + 2 * k by omega, Nat.add_mod_right, Nat.mod_eq_of_lt (by omega)]
    have low : b % k = b - k := by rw [Nat.mod_eq_sub_mod isSet, Nat.mod_eq_of_lt (by omega)]
    have top : b / k = 1 := Nat.div_eq_of_lt_le (by omega) (by omega)
    rw [sum, low, top, if_neg (by decide), Nat.add_zero]

theorem flipSign_eq (h : bits < 2 ^ f.width) : flipSign f bits = (bits + 2 ^ (f.width - 1)) % 2 ^ f.width := by
  cases f
  · exact invertTop_eq (k := 2 ^ 31) h
  · exact invertTop_eq (k := 2 ^ 63) h

theorem State.fpBits_lt (s : State) (f : Format) (i : Reg) : s.fpBits f i < 2 ^ f.width := by
  cases f
  · exact (s.viewW i).isLt
  · exact (s.viewD i).isLt

end

/-! ### The rows of COP1 that compute (30_encoding.md R118) -/

/-- A row that fixes the format and `funct`; `map` is the map of that format. -/
theorem encodes_fmt (fmt : BitVec 5) (f : BitVec 6) {map : Word → Decoded} {i : Word → Instr}
    (reads : ∀ w, opcodeOf w = 0x11#6 → rsBits w = fmt → decode w = map w)
    (row : ∀ w, functOf w = f → map w = .ok (i w)) :
    Encodes (encodeR 0x11#6 fmt 0#5 0#5 0#5 f) 0xFFE0003F#32 i := by
  intro w hw
  have opcode : opcodeOf w = 0x11#6 := (extract_of_mask hw 26 6 rfl).trans (opcodeOf_encodeR ..)
  have rs : rsBits w = fmt := (extract_of_mask hw 21 5 rfl).trans (rsBits_encodeR ..)
  have funct : functOf w = f := (extract_of_mask hw 0 6 rfl).trans (functOf_encodeR ..)
  exact (reads w opcode rs).trans (row w funct)

/-- A row of format S; the map is read at the row named. -/
theorem encodes_fmtS (f : BitVec 6) {i : Word → Instr}
    (row : ∀ w, functOf w = f → decodeFmtS w = .ok (i w) := by intro w h; rw [decodeFmtS, h]; rfl) :
    Encodes (encodeR 0x11#6 0x10#5 0#5 0#5 0#5 f) 0xFFE0003F#32 i :=
  encodes_fmt 0x10#5 f (fun _ => decode_fmtS) row

/-- A row of format D. -/
theorem encodes_fmtD (f : BitVec 6) {i : Word → Instr}
    (row : ∀ w, functOf w = f → decodeFmtD w = .ok (i w) := by intro w h; rw [decodeFmtD, h]; rfl) :
    Encodes (encodeR 0x11#6 0x11#5 0#5 0#5 0#5 f) 0xFFE0003F#32 i :=
  encodes_fmt 0x11#5 f (fun _ => decode_fmtD) row

/-- A row of format W. -/
theorem encodes_fmtW (f : BitVec 6) {i : Word → Instr}
    (row : ∀ w, functOf w = f → decodeFmtW w = .ok (i w) := by intro w h; rw [decodeFmtW, h]; rfl) :
    Encodes (encodeR 0x11#6 0x14#5 0#5 0#5 0#5 f) 0xFFE0003F#32 i :=
  encodes_fmt 0x14#5 f (fun _ => decode_fmtW) row

/-- A row of format L. -/
theorem encodes_fmtL (f : BitVec 6) {i : Word → Instr}
    (row : ∀ w, functOf w = f → decodeFmtL w = .ok (i w) := by intro w h; rw [decodeFmtL, h]; rfl) :
    Encodes (encodeR 0x11#6 0x15#5 0#5 0#5 0#5 f) 0xFFE0003F#32 i :=
  encodes_fmt 0x15#5 f (fun _ => decode_fmtL) row

/-! ### CheckCU1, the operation, FPFinish (R366) -/

section
variable {i : Instr} {s : State} {f : Format} {fd fs ft : Reg}

/-- Writing the view of a format is writing the whole register (46_fpu_move.md R342). -/
theorem State.setFpBits_eq {t : State} (bits : ℕ) (h : t.fpr fd = s.fpr fd) :
    t.setFpBits f fd bits = t.setFpr fd (viewResult s f fd bits) := by
  cases f
  · rw [viewResult, lowHalf, ← h]; rfl
  · rfl

theorem fpComputes_of_fpWrite {r : FpResult} (he : exec i s = checkCU1 s (fpWrite f r fd s)) :
    FpComputes i s r.cause fd (viewResult s f fd r.bits) :=
  fpComputes_of he fun _ => State.setFpBits_eq r.bits

theorem fpComputes_of_fpUnary {op : Format → ℕ → FpResult} {r : FpResult} (he : exec i s = fpUnary op f fd fs s)
    (hr : op f (s.fpBits f fs) = r) : FpComputes i s r.cause fd (viewResult s f fd r.bits) :=
  fpComputes_of_fpWrite (hr ▸ he)

/-- An operation on the sign bit: a NaN gives the default NaN, another value these bits and no exception
(R373, R375). -/
def OnSignBit (i : Instr) (s : State) (f : Format) (fd fs : Reg) (bits : ℕ) : Prop :=
  (∀ q, s.fpValue f fs = .nan q →
    FpComputes i s (if q then .invalid else .none) fd (viewResult s f fd (defaultNaN f))) ∧
  ((∀ q, s.fpValue f fs ≠ .nan q) → FpComputes i s .none fd (viewResult s f fd bits))

theorem onSignBit_of {op : Format → ℕ → FpResult} {bits : ℕ} (he : exec i s = fpUnary op f fd fs s)
    (nan : ∀ {b q}, unpack f b = .nan q → op f b = nanResult f q)
    (other : (∀ q, s.fpValue f fs ≠ .nan q) → op f (s.fpBits f fs) = { bits := bits, cause := .none }) :
    OnSignBit i s f fd fs bits :=
  ⟨fun q h => invalidIf_eq q ▸ fpComputes_of_fpUnary he (nan h), fun h => fpComputes_of_fpUnary he (other h)⟩

theorem onSignBit_of_fpAbs (he : exec i s = fpUnary fpAbs f fd fs s) :
    OnSignBit i s f fd fs (clearSign f (s.fpBits f fs)) :=
  onSignBit_of he fpAbs_of_nan fpAbs_of_not_nan

theorem onSignBit_of_fpNeg (he : exec i s = fpUnary fpNeg f fd fs s) :
    OnSignBit i s f fd fs ((s.fpBits f fs + 2 ^ (f.width - 1)) % 2 ^ f.width) :=
  onSignBit_of he fpNeg_of_nan fun h => flipSign_eq (s.fpBits_lt f fs) ▸ fpNeg_of_not_nan h

/-- A bit copy after CheckCU1 (R374). -/
theorem copiesFpr_of {v : DWord} (he : exec i s = checkCU1 s (complete (s.setFpBits f fd (s.fpBits f fs))))
    (hv : viewResult s f fd (s.fpBits f fs) = v) :
    NeedsCU1 i s (Completes i s [.fpr fd] (fun t => t.fpr fd = v)) :=
  needsCU1_of he fun run =>
    completes_of (run.trans (congrArg complete (State.setFpBits_eq _ rfl))) (edits_setFpr s fd _) (by simpa using hv)

theorem convertsToWord_of {rm : Rounding} (he : exec i s = fpToWord rm f fd fs s) :
    ∃ r, IntegerRule rm 32 (s.fpValue f fs) r ∧ FpComputes i s r.cause fd (lowHalf s fd (BitVec.ofNat 32 r.bits)) :=
  ⟨_, toInt_spec rm 32 _, fpComputes_of he fun t h => by rw [State.setViewW_eq, lowHalf, h]⟩

theorem convertsToLong_of {rm : Rounding} (he : exec i s = fpToLong rm f fd fs s) :
    ∃ r, IntegerRule rm 64 (s.fpValue f fs) r ∧ FpComputes i s r.cause fd (BitVec.ofNat 64 r.bits) :=
  ⟨_, toInt_spec rm 64 _, fpComputes_of he fun _ _ => rfl⟩

theorem convertsFloat_of {g : Format}
    (he : exec i s = checkCU1 s (fpWrite g (fpConvert g s.rounding (s.fpValue f fs)) fd s)) :
    ∃ r, FpComputes i s r.cause fd (viewResult s g fd r.bits) ∧ FpConverts g s.rounding (s.fpValue f fs) r :=
  ⟨_, fpComputes_of_fpWrite he, fpConvert_rule _⟩

theorem convertsInt_of {v : ℤ} (he : exec i s = checkCU1 s (fpWrite f (fpOfInt f s.rounding v) fd s)) :
    ∃ r, FpComputes i s r.cause fd (viewResult s f fd r.bits) ∧ ConvertRule f s.rounding false (v : ℝ) r :=
  ⟨_, fpComputes_of_fpWrite he, fpOfInt_rule v⟩

theorem compares_of {cond : BitVec 4} (he : exec i s = fpCondition cond f fs ft s) :
    ∃ cause c, CompareRule cond (s.fpValue f fs) (s.fpValue f ft) cause c ∧ FpCompares i s cause c :=
  ⟨_, _, fpCompare_spec cond _ _, fpCompares_of he⟩

end

/-! ### The obligations -/

/-- Settles O29: NaNs, infinities and finite operands apart; a finite sum in units of the smaller exponent. -/
theorem fpSums : Obligations.FpSums := fun _ _ _ _ _ _ => ⟨fpAdd_rule _ _, fpAdd_rule _ _⟩

/-- Settles O30: NaNs, infinities and finite operands apart; a finite product is exact before it is rounded. -/
theorem fpProducts : Obligations.FpProducts := fun _ _ _ _ _ _ => fpMul_rule _ _

/-- Settles O31: NaNs, infinities, zeros and nonzero finite operands apart. -/
theorem fpQuotients : Obligations.FpQuotients := fun _ _ _ _ _ _ => fpDiv_rule _ _

/-- Settles O32: NaN, infinity and the sign of a finite operand apart. -/
theorem fpRoots : Obligations.FpRoots := fun _ _ _ _ => fpSqrt_rule _

/-- Settles O24: each row is its operation between CheckCU1 and FPFinish. -/
theorem fpArithmeticFinishes : Obligations.FpArithmeticFinishes :=
  ⟨encodes_fmtS 0x00#6, encodes_fmtS 0x01#6, encodes_fmtS 0x02#6, encodes_fmtS 0x03#6, encodes_fmtS 0x04#6,
    encodes_fmtD 0x00#6, encodes_fmtD 0x01#6, encodes_fmtD 0x02#6, encodes_fmtD 0x03#6, encodes_fmtD 0x04#6,
    fun _ _ _ _ => fpComputes_of_fpWrite rfl,
    fun _ _ _ _ => fpComputes_of_fpWrite rfl,
    fun _ _ _ _ => fpComputes_of_fpWrite rfl,
    fun _ _ _ _ => fpComputes_of_fpWrite rfl,
    fun _ _ _ => fpComputes_of_fpWrite rfl,
    fun _ _ _ _ => fpComputes_of_fpWrite rfl,
    fun _ _ _ _ => fpComputes_of_fpWrite rfl,
    fun _ _ _ _ => fpComputes_of_fpWrite rfl,
    fun _ _ _ _ => fpComputes_of_fpWrite rfl,
    fun _ _ _ => fpComputes_of_fpWrite rfl⟩

/-- Settles O25: ABS and NEG by whether the operand is a NaN; MOV is a bit copy. -/
theorem fpSignAndMove : Obligations.FpSignAndMove :=
  ⟨encodes_fmtS 0x05#6, encodes_fmtS 0x07#6, encodes_fmtS 0x06#6,
    encodes_fmtD 0x05#6, encodes_fmtD 0x07#6, encodes_fmtD 0x06#6,
    fun _ _ _ => onSignBit_of_fpAbs (f := .single) rfl,
    fun _ _ _ => onSignBit_of_fpNeg (f := .single) rfl,
    fun s fd fs => copiesFpr_of (f := .single) rfl
      (congrArg (lowHalf s fd) ((BitVec.ofNat_toNat ..).trans (s.viewW_eq fs))),
    fun _ _ _ => onSignBit_of_fpAbs (f := .double) rfl,
    fun _ _ _ => onSignBit_of_fpNeg (f := .double) rfl,
    fun s _ fs => copiesFpr_of (f := .double) rfl (BitVec.ofNat_toNat ..)⟩

/-- Settles O26: each row is `ToInt` with its rounding between CheckCU1 and FPFinish. -/
theorem fpToInteger : Obligations.FpToInteger :=
  ⟨encodes_fmtS 0x0C#6, encodes_fmtS 0x08#6, encodes_fmtS 0x0D#6, encodes_fmtS 0x09#6, encodes_fmtS 0x0E#6,
    encodes_fmtS 0x0A#6, encodes_fmtS 0x0F#6, encodes_fmtS 0x0B#6, encodes_fmtS 0x24#6, encodes_fmtS 0x25#6,
    encodes_fmtD 0x0C#6, encodes_fmtD 0x08#6, encodes_fmtD 0x0D#6, encodes_fmtD 0x09#6, encodes_fmtD 0x0E#6,
    encodes_fmtD 0x0A#6, encodes_fmtD 0x0F#6, encodes_fmtD 0x0B#6, encodes_fmtD 0x24#6, encodes_fmtD 0x25#6,
    fun _ _ _ => convertsToWord_of rfl, fun _ _ _ => convertsToLong_of rfl,
    fun _ _ _ => convertsToWord_of rfl, fun _ _ _ => convertsToLong_of rfl,
    fun _ _ _ => convertsToWord_of rfl, fun _ _ _ => convertsToLong_of rfl,
    fun _ _ _ => convertsToWord_of rfl, fun _ _ _ => convertsToLong_of rfl,
    fun _ _ _ => convertsToWord_of rfl, fun _ _ _ => convertsToLong_of rfl,
    fun _ _ _ => convertsToWord_of rfl, fun _ _ _ => convertsToLong_of rfl,
    fun _ _ _ => convertsToWord_of rfl, fun _ _ _ => convertsToLong_of rfl,
    fun _ _ _ => convertsToWord_of rfl, fun _ _ _ => convertsToLong_of rfl,
    fun _ _ _ => convertsToWord_of rfl, fun _ _ _ => convertsToLong_of rfl,
    fun _ _ _ => convertsToWord_of rfl, fun _ _ _ => convertsToLong_of rfl⟩

/-- Settles O27: a value by its kind, an integer as itself, rounded once. -/
theorem fpToFloat : Obligations.FpToFloat :=
  ⟨encodes_fmtD 0x20#6, encodes_fmtS 0x21#6, encodes_fmtW 0x20#6, encodes_fmtL 0x20#6, encodes_fmtW 0x21#6,
    encodes_fmtL 0x21#6,
    fun _ _ _ => convertsFloat_of rfl,
    fun _ _ _ => convertsFloat_of rfl,
    fun _ _ _ => convertsInt_of rfl,
    fun _ _ _ => convertsInt_of rfl,
    fun _ _ _ => convertsInt_of rfl,
    fun _ _ _ => convertsInt_of rfl⟩

/-- Settles O28: the 32 rows are one comparison, by the format and `cond`. (The model's comparison has the name
`fpCompare`.) -/
theorem fpCompareRows : Obligations.FpCompare := by
  refine ⟨encodes_fmtS 0x30#6, encodes_fmtS 0x31#6, encodes_fmtS 0x32#6, encodes_fmtS 0x33#6, encodes_fmtS 0x34#6,
    encodes_fmtS 0x35#6, encodes_fmtS 0x36#6, encodes_fmtS 0x37#6, encodes_fmtS 0x38#6, encodes_fmtS 0x39#6,
    encodes_fmtS 0x3A#6, encodes_fmtS 0x3B#6, encodes_fmtS 0x3C#6, encodes_fmtS 0x3D#6, encodes_fmtS 0x3E#6,
    encodes_fmtS 0x3F#6,
    encodes_fmtD 0x30#6, encodes_fmtD 0x31#6, encodes_fmtD 0x32#6, encodes_fmtD 0x33#6, encodes_fmtD 0x34#6,
    encodes_fmtD 0x35#6, encodes_fmtD 0x36#6, encodes_fmtD 0x37#6, encodes_fmtD 0x38#6, encodes_fmtD 0x39#6,
    encodes_fmtD 0x3A#6, encodes_fmtD 0x3B#6, encodes_fmtD 0x3C#6, encodes_fmtD 0x3D#6, encodes_fmtD 0x3E#6,
    encodes_fmtD 0x3F#6, ?_⟩
  and_intros
  all_goals exact fun _ _ _ => compares_of rfl

end Sys2Proof.Machine
end

section
/-! SUPPORT. The families 60_exceptions and 70_reset_and_hazards: trap entry, the boundary by its three cases, which
turns and host calls are FATAL, and the lifecycle. -/

namespace Sys2Proof.Machine

/-! ### Trap entry (60_exceptions.md R402 to R406) -/

/-- With EXL set, EPC and `Cause.BD` stay as they were. -/
theorem TrapTaken.keeps_of_exl {code : BitVec 5} {ce : BitVec 2} {s t : State} (h : TrapTaken code ce s t)
    (exl : statusEXL s.status = true) : t.epc = s.epc ∧ causeBD t.cause = causeBD s.cause :=
  ⟨h.epc.trans (if_pos exl), h.bd.trans (if_pos exl)⟩

/-- Settles O33: the rule of trap entry, and its case of EXL already set. (The model's operation has the name
`trapEntry`.) -/
theorem trapEntryRule : Obligations.TrapEntry := by
  intro code ce s
  obtain ⟨taken, only, ctl⟩ := trapEntry_spec code ce s
  exact ⟨taken, only, taken.keeps_of_exl, ctl⟩

/-! ### The boundary (60_exceptions.md R412, R414) -/

/-- `InterruptPending()` bit by bit: IE and neither EXL nor ERL, and an IP bit whose IM bit is set. -/
theorem interruptPending_iff (s : State) : s.interruptPending = true ↔
    bitAt s.status 0 = true ∧ bitAt s.status 1 = false ∧ bitAt s.status 2 = false ∧
      ∃ n, n < 8 ∧ bitAt s.cause (8 + n) = true ∧ bitAt s.status (8 + n) = true := by
  have unmasked : causeIP s.cause &&& statusIM s.status ≠ 0#8 ↔
      ∃ n, n < 8 ∧ bitAt s.cause (8 + n) = true ∧ bitAt s.status (8 + n) = true := by
    rw [and_ne_zero_iff]
    refine exists_congr fun n => and_congr_right fun hn => ?_
    rw [causeIP, statusIM, getLsbD_fieldAt, getLsbD_fieldAt, decide_eq_true hn, Bool.true_and, Bool.true_and]
  rw [State.interruptPending, statusIE, statusEXL, statusERL, Bool.and_eq_true, Bool.and_eq_true, Bool.and_eq_true,
    Bool.not_eq_true', Bool.not_eq_true', bne_iff_ne, unmasked, and_assoc, and_assoc]

theorem boundary_interrupt {s : State} (idle : s.ctl.pendingExc = none) (h : s.interruptPending = true) :
    boundary s = trapEntry 0#5 0#2 s := by
  rw [boundary, idle]
  exact if_pos h

theorem boundary_quiet {s : State} (idle : s.ctl.pendingExc = none) (h : ¬ s.interruptPending = true) :
    boundary s = s := by
  rw [boundary, idle]
  exact if_neg h

/-- Settles O34: the boundary is trap entry in its first two cases and nothing in the third. -/
theorem boundaryPriority : Obligations.BoundaryPriority := by
  intro s
  rw [← interruptPending_iff]
  refine ⟨fun p pending => ?_, fun idle => ⟨fun interrupt => ?_, boundary_quiet idle⟩⟩
  · rw [boundary_pending pending]
    obtain ⟨taken, only, ctl⟩ := trapEntry_spec p.code p.ce { s with ctl := { s.ctl with pendingExc := none } }
    exact ⟨taken.of_cpu_eq rfl, ctl, only⟩
  · rw [boundary_interrupt idle interrupt]
    obtain ⟨taken, only, ctl⟩ := trapEntry_spec 0#5 0#2 s
    exact ⟨taken, ctl, only⟩

/-! ### FATAL (70_reset_and_hazards.md R444) -/

/-- Whether the block is ready does not depend on the host's moves. -/
@[simp] theorem State.ready_setAgenda (s : State) (moves : List HostMove) :
    State.ready { s with agenda := moves } = s.ready := rfl

/-- The checks of `run` after a cycle add no fault. -/
theorem runTurn_fault_iff (ceiling : Option Nat) (s : State) (r : Fault) :
    runTurn ceiling s = .fault r ↔ s.ready = false := by
  rw [← cycle_fault s r, runTurn]
  cases cycle s <;> simp

/-- The return of `step()` after its cycle adds no fault. -/
theorem stepTurn_fault_iff (s : State) (r : Fault) : stepTurn s = .fault r ↔ s.ready = false := by
  rw [← cycle_fault s r, stepTurn]
  cases cycle s <;> simp

/-- The controller's turn faults where it is a cycle of a block that is not ready. -/
theorem controllerTurn_fault_iff (s : State) (r : Fault) : controllerTurn s = .fault r ↔
    s.ready = false ∧ (s.ctl.runState = .running ∨ s.ctl.runState = .stepping) := by
  rw [controllerTurn]
  cases s.ctl.runState with
  | running => simp [runTurn_fault_iff]
  | stepping => simp [stepTurn_fault_iff]
  | stopped => simp
  | paused => simp

theorem hostCall_fault_iff (op : HostOp) (s : State) : hostCall op s = .fault .fatal ↔ hostOp op s = .fatal := by
  rw [hostCall]
  cases hostOp op s <;> simp

/-- Settles O44: by who moves, the controller in Stepping, else as the head of the moves says. -/
theorem fatalExactly : Obligations.FatalExactly := by
  intro s
  by_cases hs : s.ctl.runState = .stepping
  · rw [step_of_stepping hs, stepTurn_fault_iff]
    simp [hs]
  · cases agenda : s.agenda with
    | nil =>
      rw [step_controllerTurn hs (.inl ⟨agenda, rfl⟩), controllerTurn_fault_iff]
      simp [hs]
    | cons move rest =>
      cases move with
      | yield =>
        rw [step_controllerTurn hs (.inr ⟨rest, agenda, rfl⟩), controllerTurn_fault_iff]
        simp [hs]
      | call op =>
        rw [step_hostCall hs agenda, hostCall_fault_iff, hostOp_fatal]
        simp [hs]

/-! ### The lifecycle (70_reset_and_hazards.md R440, R442) -/

/-- A block that was shut down is not ready. -/
theorem ready_of_not_initialized {s : State} (h : s.ctl.initialized = false) : s.ready = false := by
  rw [State.ready, h, Bool.false_and]

/-- Settles O57: initialisation gives the registers and the controller their values of reset, whatever the memory. -/
theorem lifecycle : Obligations.Lifecycle := by
  intro s
  refine ⟨fun memReady => ?init, fun memOff => ?noMemory, ?shutdown⟩
  case init =>
    obtain ⟨regs, hi, lo, pc, delay, llbit, -⟩ := resetValues
    exact ⟨_, if_pos memReady, rfl, regs, hi, lo, pc, delay, llbit, rfl, rfl, rfl, rfl, rfl, rfl, rfl,
      fun a => Bool.and_false _⟩
  case noMemory => exact (hostOp_fatal .init s).mpr (.inr ⟨memOff, rfl⟩)
  case shutdown =>
    refine ⟨_, rfl, rfl, rfl, rfl, (hostOp_fatal ..).mpr (.inl ⟨?_, .inl rfl⟩),
      (hostOp_fatal ..).mpr (.inl ⟨?_, .inr (.inl rfl)⟩)⟩
    · exact ready_of_not_initialized rfl
    · exact ready_of_not_initialized rfl

end Sys2Proof.Machine
end
